-- ==== Sys2Proof/Word.lean ====
section
/-! DEFINITION. The byte and word types of the message link (R1) and the saturating addition every counter of the manual uses (00_scope.md 0.6). -/

namespace Sys2Proof

/-- One byte of a frame. -/
abbrev Byte := BitVec 8

/-- A two-byte field. -/
abbrev Half := BitVec 16

/-- A four-byte field. -/
abbrev Word := BitVec 32

/-- A port number, 0-15 (Table 0-3). -/
abbrev PortNo := Fin 16

/-- A saturating counter "stops at its largest value when it would otherwise pass it" (00_scope.md 0.6). -/
def satAdd (top a b : Nat) : Nat := min top (a + b)

/-- The largest value of an 8-bit counter. -/
def max8 : Nat := 255

/-- The largest value of a 16-bit counter. -/
def max16 : Nat := 65535

/-- The largest value of a 32-bit counter. -/
def max32 : Nat := 4294967295

/-- The largest value of a 48-bit counter. -/
def max48 : Nat := 281474976710655

end Sys2Proof
end

