-- ==== Sys2Proof/Syntax.lean ====
section
/-! DEFINITION. The commands of the 1640: one constructor for each row of opcode_table.json, with the operands the row's rule gives it. -/

namespace Sys2Proof

/-- A command of the part. A host request carries its tag and the payload fields of its owning chapter, in byte
order; it stands for the arrival of one complete frame of that kind (log 2). A press-link command carries its port,
a panel command the address and the fields of the ANSWER. -/
inductive Instr where
  -- resets and the time base (R167, R11, R128)
  /-- Power-on with the strap setting read and, for a save cut off by it, whether the image had been changed (R170). -/
  | powerOn (strap : BitVec 2) (imageTouched : Bool)
  | resetInput (strap : BitVec 2) (imageTouched : Bool)
  | shopClockTick
  | cutoverScheduleDue
  -- the host link (R2, R7, R10)
  | hostFrameReceived (bytes : List Byte)
  | frameSent
  | restartBegin
  -- host requests of the message link and of the settings store
  | unknownKind (kind tag : Byte) (payload : List Byte)
  | status (tag : Byte)
  | identify (tag : Byte)
  | clockSet (tag : Byte) (value : Word)
  | save (tag : Byte)
  | saveWriteEnd (agrees : Bool)
  | restartCold (tag : Byte)
  | restartWarm (tag : Byte)
  -- jobs and spool (chapters 2, 3, 5)
  | jobOpen (tag account dest cls priority : Byte) (copies : Half) (options colour media size : Byte)
  | sheetData (tag : Byte) (job : Half) (data : List Byte)
  | sheetEnd (tag : Byte) (job : Half) (sides : Byte) (offset : Word)
  | jobClose (tag : Byte) (job : Half)
  | jobQuery (tag : Byte) (job : Half)
  | jobList (tag selector number : Byte)
  | jobHold (tag : Byte) (job : Half)
  | jobRelease (tag : Byte) (job : Half)
  | jobCancel (tag : Byte) (job : Half)
  | jobSuspend (tag : Byte) (job : Half)
  | jobResume (tag : Byte) (job : Half)
  | jobMove (tag : Byte) (job : Half) (dest : Byte)
  | jobForget (tag : Byte) (job : Half)
  -- destinations (chapter 4)
  | routeSet (tag dest flags count : Byte) (members : Vector Byte 8) (label : Vector Byte 16)
  | routeMask (tag mask : Byte)
  | routeQuery (tag dest : Byte)
  -- ports (chapters 2, 6, 7)
  | portSet (tag port window progress wake idle rate slowFloor lampMode : Byte)
  | portSetPartWide (tag : Byte) (reserve threshold : Half) (escalation zero1 zero2 : Byte)
  | portQuery (tag port clear : Byte)
  | portQueryPartWide (tag clear : Byte)
  | portWake (tag port mode : Byte)
  | portPause (tag port : Byte)
  | portUnpause (tag port : Byte)
  | portRecover (tag port : Byte)
  -- tariffs (chapter 8)
  | tariffSet (tag item index : Byte) (value : Word)
  | tariffQuery (tag which : Byte)
  | tariffMode (tag mode : Byte)
  | tariffCutoverNow (tag flags : Byte) (time : Word)
  | tariffCutoverAt (tag flags : Byte) (time : Word)
  | tariffCutoverCancel (tag flags : Byte) (time : Word)
  -- accounts (chapter 9)
  | accountSet (tag account flags : Byte) (limit : Word)
  | accountQuery (tag account : Byte)
  | accountClose (tag account : Byte)
  -- alerts, lamps, horn (chapter 10)
  | alertQuery (tag selector : Byte)
  | alertAck (tag entry : Byte)
  | hornSilence (tag : Byte)
  | lampMode (tag port mode : Byte)
  | lampSet (tag port red amber green : Byte)
  -- panel settings (chapter 11)
  | panelSet (tag address level fitted : Byte)
  | panelQuery (tag address : Byte)
  -- frames from a printer (R87, Table 1-12)
  | hello (port : PortNo) (colour duplex media size maxWindow : Byte)
  | taken (port : PortNo) (tag : Byte)
  | out (port : PortNo) (tag : Byte)
  | jam (port : PortNo) (location spoiled : Byte)
  | clear (port : PortNo)
  | state (port : PortNo) (ready door mediaEmpty : Byte)
  | pressFrameDiscarded (port : PortNo) (bytes : List Byte)
  -- the part's own events at a port (R102, R96, R95, R115, R118, R105)
  | transferEnd (port : PortNo)
  | hailTimerExpiry (port : PortNo)
  | wakeTimerExpiry (port : PortNo)
  | idleTimerExpiry (port : PortNo)
  | progressWatchdogExpiry (port : PortNo)
  | attemptTimerExpiry (port : PortNo)
  | rateWindowEnd (port : PortNo)
  /-- An entry's time in RAISED reaches the escalation time (R156). -/
  | escalationReached (entry : Fin 113)
  -- the panel bus (R160, R161, R162)
  | poll
  | pollReplyTimeout
  | panelNone (panel number : Byte) (argument : Half)
  | panelAck (panel number : Byte) (argument : Half)
  | panelSilence (panel number : Byte) (argument : Half)
  | panelPause (panel number : Byte) (argument : Half)
  | panelUnpause (panel number : Byte) (argument : Half)
  | panelHold (panel number : Byte) (argument : Half)
  | panelRelease (panel number : Byte) (argument : Half)
  | panelSuspend (panel number : Byte) (argument : Half)
  | panelResume (panel number : Byte) (argument : Half)
  | panelCancel (panel number : Byte) (argument : Half)
  /-- A frame that completes within the reply wait: whether its check holds, its kind, tag and payload. -/
  | pollReplyBadFrame (checkHolds : Bool) (kind tag : Byte) (payload : List Byte)
  | panelActionBadCode (panel code number : Byte) (argument : Half)
  deriving DecidableEq, Repr

end Sys2Proof
end

