-- ==== Sys2Proof/Decode.lean ====
section
/-! DEFINITION. The command a word spells by the bits of opcode_table.json: no row of the table gives bits. -/

namespace Sys2Proof

/-- The command that an opcode-table word of `nbits` bits spells. The 1640 takes frames, reports and events, and no
row of the table gives any bits, so no word spells a command. -/
def decodeTableWord (_nbits _w : Nat) : Option Instr := none

end Sys2Proof
end

