-- ==== Sys2Proof/Machine/Bytes.lean ====
section
/-! DEFINITION. Byte order: a field of several bytes is sent most significant byte first (section 1.4, R1). -/

namespace Sys2Proof.Machine

/-- `n` as one byte. -/
def be8 (n : Nat) : List Byte := [BitVec.ofNat 8 n]

/-- `n` as two bytes, most significant first. -/
def be16 (n : Nat) : List Byte := [BitVec.ofNat 8 (n / 256), BitVec.ofNat 8 n]

/-- `n` as four bytes, most significant first. -/
def be32 (n : Nat) : List Byte := be16 (n / 65536) ++ be16 n

/-- `n` as six bytes, most significant first. -/
def be48 (n : Nat) : List Byte := be16 (n / 4294967296) ++ be32 n

/-- The byte at offset `i` of a payload, as a number (0 past its end). -/
def byteAt (p : List Byte) (i : Nat) : Nat := (p.getD i 0).toNat

/-- The two-byte field at offset `i`. -/
def halfAt (p : List Byte) (i : Nat) : Nat := byteAt p i * 256 + byteAt p (i + 1)

/-- The four-byte field at offset `i`. -/
def wordAt (p : List Byte) (i : Nat) : Nat := halfAt p i * 65536 + halfAt p (i + 2)

/-- A flag as a number: 1 when set. -/
def bit (b : Bool) : Nat := if b then 1 else 0

/-- The byte whose bits, from bit 0 up, are the flags listed. -/
def flagByte : List Bool → Nat
  | [] => 0
  | b :: bs => bit b + 2 * flagByte bs

/-- Bit `i` of `n`. -/
def bitOf (n i : Nat) : Bool := n.testBit i

end Sys2Proof.Machine
end

