-- ==== Sys2Proof/Machine/Settings.lean ====
section
/-! DEFINITION. The settings image: every item of Table 12-1 (R166), each with its factory value, and the check held with them. -/

namespace Sys2Proof.Machine

/-- The settings of one port: the setting rows of Table 6-2, and the lamp mode (R155). -/
structure PortSettings where
  /-- configured window, 1-32 -/
  window : Nat := 4
  /-- progress timeout, 0-255 s -/
  progress : Nat := 30
  /-- wake timeout, 1-255 s -/
  wake : Nat := 90
  /-- idle time, 1-255 min -/
  idle : Nat := 20
  /-- rate window, 1-255 s -/
  rate : Nat := 60
  /-- slow floor, 0-255 sheets per window -/
  slowFloor : Nat := 0
  /-- lamp mode: HOST when set, AUTO when clear -/
  lampHost : Bool := false
  deriving DecidableEq, Repr

/-- A destination record (Table 4-1). -/
structure Dest where
  label : List Byte := []
  members : List PortNo := []
  enabled : Bool := false
  insert : Bool := false
  deriving DecidableEq, Repr

/-- A tariff sheet (Table 8-1). `base` is indexed by colour class x 8 + media class. -/
structure Tariff where
  base : Vector Nat 16 := Vector.replicate 16 0
  size : Vector Nat 8 := Vector.replicate 8 16
  second : Nat := 16
  t1 : Nat := 1000
  t2 : Nat := 10000
  t3 : Nat := 100000
  discount : Vector Nat 4 := Vector.replicate 4 0
  deriving DecidableEq, Repr

/-- A cutover schedule that is present (R122). -/
structure Schedule where
  time : Nat
  close : Bool
  deriving DecidableEq, Repr

/-- An account record (Table 9-1), but for its reservation. -/
structure Account where
  isOpen : Bool := false
  limited : Bool := false
  fixed : Bool := false
  exempt : Bool := false
  limit : Nat := 0
  periodCharged : Nat := 0
  periodImpressions : Nat := 0
  periodSheets : Nat := 0
  periodWaste : Nat := 0
  periodDoubtful : Nat := 0
  lifeCharged : Nat := 0
  lifeImpressions : Nat := 0
  periodOpened : Nat := 0
  deriving DecidableEq, Repr

/-- The rights levels of Table 11-1. -/
inductive Rights where
  | view | ack | floor | full
  deriving DecidableEq, Repr

/-- The two settings of a panel record (R159). -/
structure PanelSettings where
  fitted : Bool := true
  rights : Rights := .ack
  deriving DecidableEq, Repr

/-- The factory value of destination `d` (R55). -/
def Dest.factory (d : Fin 32) : Dest :=
  if h : d.val < 16 then { members := [⟨d.val, h⟩], enabled := true } else {}

/-- Everything of Table 12-1, as the blocks hold it or as an image holds it. -/
structure Settings where
  ports : Vector PortSettings 16 := Vector.replicate 16 {}
  rushReserve : Nat := 256
  lowSpool : Nat := 512
  escalation : Nat := 60
  dests : Vector Dest 32 := Vector.ofFn Dest.factory
  active : Tariff := {}
  staged : Tariff := {}
  /-- tariff mode: DIRECT when set, STAGED when clear -/
  direct : Bool := false
  schedule : Option Schedule := none
  accounts : Vector Account 128 := Vector.replicate 128 {}
  panels : Vector PanelSettings 8 := Vector.replicate 8 {}
  deriving DecidableEq, Repr

/-- The factory values of every item (R55, R88, R122, R135, R155, R159, R28). -/
def Settings.factory : Settings := {}

/-- The settings image as nonvolatile memory holds it: the contents and the 32-bit check stored with them (R166). -/
structure SettingsImage where
  contents : Settings
  check : Word
  deriving DecidableEq, Repr

end Sys2Proof.Machine
end

