-- ==== Sys2Proof/Machine/State.lean ====
section
/-! DEFINITION. The state of the part, block by block (Table 0-1), the reasons a step can stop, and the state after reset. -/

namespace Sys2Proof.Machine

/-! ### Message Link Controller -/

/-- A frame's kind, tag and payload; its sync byte, length and check follow from these (R1). -/
structure Frame where
  kind : Byte
  tag : Byte
  payload : List Byte
  deriving DecidableEq, Repr

/-- A receiver's condition (R2): IN_FRAME holds the bytes collected after the sync byte, in order of arrival. -/
inductive Rx where
  | hunting
  | inFrame (got : List Byte)
  deriving DecidableEq, Repr

/-- The stage of a holding-area entry (R4). -/
inductive Stage where
  | admitted | replyReady | sending
  deriving DecidableEq, Repr

/-- An entry of the receive holding area (R4); `reply` is present from REPLY_READY on. -/
structure Entry where
  request : Frame
  stage : Stage
  reply : Option Frame := none
  deriving DecidableEq, Repr

/-- A notice of the notice queue: its kind and the contents after the notice flags byte (R8, Table 1-4). -/
structure Notice where
  kind : Byte
  contents : List Byte
  deriving DecidableEq, Repr

/-- The transmit side (R7). -/
inductive Tx where
  | idle
  | sending (frame : Frame) (isReply : Bool)
  deriving DecidableEq, Repr

/-- The two kinds of RESTART (section 12.4). -/
inductive RestartKind where
  | cold | warm
  deriving DecidableEq, Repr

/-- The Message Link Controller. -/
structure Mlc where
  rx : Rx := .hunting
  holding : List Entry := []
  notices : List Notice := []
  overrun : Bool := false
  tx : Tx := .idle
  lastReply : Bool := false
  discarded : Nat := 0
  /-- A RESTART taken with status OK whose reply has not gone out yet (R10). -/
  restart : Option RestartKind := none
  clock : Nat := 0
  resetSeen : Bool := true
  clockUnset : Bool := true
  defaultsLoaded : Bool := true
  deriving DecidableEq, Repr

/-! ### Spool Memory Manager -/

/-- An image record in use (Table 2-2). COMPLETE holds its sides, and its side-2 offset when they are 2. -/
structure Image where
  record : Nat
  job : Nat
  index : Nat
  chain : List Nat := []
  length : Nat := 0
  complete : Bool := false
  sides : Option Nat := none
  offset : Option Nat := none
  deriving DecidableEq, Repr

/-- The Spool Memory Manager. `images` lists the records in use in ascending record number. -/
structure Smm where
  sizeClass : Fin 4 := 0
  free : List Nat := []
  images : List Image := []
  /-- Spool memory: address = block x 32,768 + offset, strictly rising, no entry that reads 0. -/
  spool : List Host.Cell := []
  low : Bool := false
  deriving DecidableEq, Repr

/-! ### Job Table -/

/-- The ten states of Table 3-2. -/
inductive JobState where
  | spooling | queued | held | running | starved | draining | suspended | cancelling | done | cancelled
  deriving DecidableEq, Repr

/-- A drain purpose (Table 3-1). -/
inductive Purpose where
  | suspendInsert | suspendHost | hold | credit
  deriving DecidableEq, Repr

/-- A colour class or colour capability. -/
inductive Colour where
  | mono | color
  deriving DecidableEq, Repr

/-- A hold-reason set (section 3.5). -/
structure Holds where
  host : Bool := false
  panel : Bool := false
  credit : Bool := false
  deriving DecidableEq, Repr

/-- A job record in use (Table 3-1), with its record number. -/
structure Job where
  record : Nat
  num : Nat
  account : Fin 128
  dest : Fin 32
  rush : Bool
  priority : Nat
  copies : Nat
  collate : Bool
  earlyStart : Bool
  duplex : Bool
  colour : Colour
  media : Fin 8
  size : Fin 8
  state : JobState := .spooling
  dataClosed : Bool := false
  complete : Nat := 0
  total : Option Nat := none
  cursor : Nat := 0
  delivered : Nat := 0
  inFlight : Nat := 0
  spoiled : Nat := 0
  doubtful : Nat := 0
  impressions : Nat := 0
  charged : Nat := 0
  holds : Holds := {}
  bound : Option PortNo := none
  pinned : Bool := false
  purpose : Option Purpose := none
  opened : Nat := 0
  firstDispatch : Option Nat := none
  finished : Option Nat := none
  queueEntry : Option Nat := none
  deriving DecidableEq, Repr

/-- The Job Table. `jobs` lists the records in use in ascending record number. -/
structure Jt where
  jobs : List Job := []
  lastNum : Nat := 0
  finished : List Nat := []
  deriving DecidableEq, Repr

/-! ### Destination Table -/

/-- A route mask that is present (R57). -/
structure RouteMask where
  members : Bool
  label : Bool
  enabled : Bool
  insert : Bool
  deriving DecidableEq, Repr

/-- The Destination Table but for its records, which are settings. -/
structure Dt where
  queues : Vector (List Nat) 32 := Vector.replicate 32 []
  routeMask : Option RouteMask := none
  deriving DecidableEq, Repr

/-! ### Port Scheduler and Press Port Controller -/

/-- A link state (R88), coded 0-4 in this order. -/
inductive Link where
  | down | waking | up | recovering | offline
  deriving DecidableEq, Repr

/-- A wake mode (R94), coded 0-2 in this order. -/
inductive WakeMode where
  | auto | forceOn | forceOff
  deriving DecidableEq, Repr

/-- A suspension reason (R70), reported 0 INSERT, 1 HOST, 2 RETURN. -/
inductive SuspReason where
  | insert | host | ret
  deriving DecidableEq, Repr

/-- The contents of a suspended slot that is not empty (R70). -/
structure Suspended where
  job : Nat
  reason : SuspReason
  deriving DecidableEq, Repr

/-- A capability record that is present (R63). -/
structure Caps where
  colour : Colour
  duplex : Bool
  media : Byte
  size : Byte
  deriving DecidableEq, Repr

/-- The stage of an in-flight record (section 6.6). -/
inductive FlightStage where
  | sending | sent | taken
  deriving DecidableEq, Repr

/-- An in-flight record (section 6.6, Table 1-10), with the side-2 offset of a duplex image (R26). -/
structure Flight where
  job : Nat
  pos : Nat
  index : Nat
  copy : Nat
  tag : Byte
  sides : Nat
  offset : Option Nat := none
  charge : Nat
  stage : FlightStage
  deriving DecidableEq, Repr

/-- The kinds of alert (R146), coded 0-7 in this order. -/
inductive AlertKind where
  | jam | stall | linkLost | wakeFail | mediaOut | slow | door | spoolLow
  deriving DecidableEq, Repr

/-- The seven conditions a Press Port Controller holds (R88, R111). -/
structure Conds where
  jam : Bool := false
  stall : Bool := false
  linkLost : Bool := false
  wakeFail : Bool := false
  mediaOut : Bool := false
  slow : Bool := false
  door : Bool := false
  deriving DecidableEq, Repr

/-- What a stack lamp shows (section 10.5). -/
inductive Lamp where
  | off | steady | flash
  deriving DecidableEq, Repr

/-- The three stack lamps of a port. -/
structure Lamps where
  red : Lamp := .off
  amber : Lamp := .off
  green : Lamp := .off
  deriving DecidableEq, Repr

/-- The port meters (R106). -/
structure Meters where
  sheets : Nat := 0
  impressions : Nat := 0
  spoiled : Nat := 0
  doubtful : Nat := 0
  deriving DecidableEq, Repr

/-- One port: its Port Scheduler (slots and pinned queue), its Press Port Controller (Table 6-2) and its lamps.
A timer that runs holds the length it was started with. -/
structure Port where
  run : Option Nat := none
  susp : Option Suspended := none
  inc : Option Nat := none
  pinnedQ : List Nat := []
  link : Link := .down
  ready : Bool := false
  jammed : Bool := false
  doorOpen : Bool := false
  mediaEmpty : Byte := 0
  caps : Option Caps := none
  maxWindow : Option Nat := none
  effWindow : Nat := 0
  nextTag : Byte := 0
  inFlight : List Flight := []
  transfer : List Frame := []
  wakeMode : WakeMode := .auto
  forceOff : Bool := false
  pauseHost : Bool := false
  pausePanel : Bool := false
  wakeTimer : Option Nat := none
  hailTimer : Bool := false
  idleTimer : Option Nat := none
  watchdog : Option Nat := none
  attempt : Option Nat := none
  rateCount : Nat := 0
  latchedRate : Nat := 0
  busy : Bool := false
  conds : Conds := {}
  meters : Meters := {}
  lamps : Lamps := {}
  rx : Rx := .hunting
  deriving DecidableEq, Repr

/-! ### Account Table -/

/-- The reservation counters of an account (R135, R140). -/
structure Reserved where
  mills : Nat := 0
  impressions : Nat := 0
  deriving DecidableEq, Repr

/-! ### Alert Unit -/

/-- The state of an alert entry, coded 0-3 in this order (R151). -/
inductive AlertState where
  | quiet | raised | acked | linger
  deriving DecidableEq, Repr

/-- Who acknowledged an entry (Table 10-1). -/
inductive AckBy where
  | host
  | panel (p : Fin 8)
  deriving DecidableEq, Repr

/-- An alert entry (Table 10-1), with the moment of the time base at which it last entered RAISED, 0 in any other state
(R156). -/
structure Alert where
  on : Bool := false
  state : AlertState := .quiet
  raiseTime : Nat := 0
  raiseCount : Nat := 0
  detail : Option Nat := none
  ackedBy : Option AckBy := none
  raisedAt : Nat := 0
  deriving DecidableEq, Repr

/-- The number of an alert entry, 0-112 (R146). -/
abbrev EntryNo := Fin 113

/-- The Alert Unit. -/
structure Au where
  alerts : Vector Alert 113 := Vector.replicate 113 {}
  announced : List EntryNo := []
  horn : Bool := false
  silenced : Bool := false
  deriving DecidableEq, Repr

/-! ### Panel Bus Controller -/

/-- A panel's last action record that is present (R159). -/
structure ActionRecord where
  number : Byte
  code : Byte
  argument : Nat
  result : Nat
  deriving DecidableEq, Repr

/-- The running fields of a panel record (R159), with the moment of the time base of its last poll since the reset (R160). -/
structure Panel where
  present : Bool := false
  misses : Nat := 0
  lastReply : Option Nat := none
  lastAction : Option ActionRecord := none
  polledAt : Option Nat := none
  deriving DecidableEq, Repr

/-- The exchange under way on the panel bus: the polled address and the POLL sent (R160). -/
structure Exchange where
  panel : Fin 8
  poll : Frame
  deriving DecidableEq, Repr

/-- The Panel Bus Controller. The place of the round, `roundNext`, is 0 after every reset, so that polling then begins a
round at address 0 (log 11). -/
structure Pbc where
  panels : Vector Panel 8 := Vector.replicate 8 {}
  roundNext : Nat := 0
  awaiting : Option Exchange := none
  deriving DecidableEq, Repr

/-! ### Settings Store -/

/-- The Settings Store: the nonvolatile image with its stored check (`none`: contents of which nothing is kept but that
their stored check does not agree, R167, R170), and the capture of a save in progress (R166, R168). -/
structure Ss where
  stored : Option SettingsImage := none
  saving : Option Settings := none
  deriving DecidableEq, Repr

/-! ### The time base -/

/-- The part's own time base, on which the timers run (R11): the moment of the last command and the moment at which the
current second of the shop clock began (R12), in units of which a second has `Config.second`, and the number of commands
so far (the model's own, the argument of the free value `Config.elapsed`, log 10). -/
structure TimeBase where
  now : Nat := 0
  secondAt : Nat := 0
  acts : Nat := 0
  deriving DecidableEq, Repr

/-! ### The act under way -/

/-- The reason codes of Table 3-4, 0-7 in this order. -/
inductive JobReason where
  | host | panel | credit | data | port | dispatch | delivery | fault
  deriving DecidableEq, Repr

/-- A notice handed over in the act under way (log 7). A JOB_EVENT and a PORT_EVENT are filled in when the act
ends, with the values held then (R33, R93). -/
inductive Note where
  | job (num : Nat) (reason : JobReason)
  | port (p : PortNo)
  | notice (n : Notice)
  deriving DecidableEq, Repr

/-- The machine. `cfg` holds the settings and meters of Table 12-1 that the blocks hold live. -/
structure State where
  mlc : Mlc := {}
  smm : Smm := {}
  jt : Jt := {}
  dt : Dt := {}
  ports : Vector Port 16 := Vector.replicate 16 {}
  reserved : Vector Reserved 128 := Vector.replicate 128 {}
  au : Au := {}
  pbc : Pbc := {}
  cfg : Settings := Settings.factory
  ss : Ss := {}
  base : TimeBase := {}
  /-- The notices of the act under way; empty between steps (the model's own). -/
  notes : List Note := []
  /-- The press frames the last step put on the press links (the model's own, log 19). -/
  pressOut : List (PortNo × Frame) := []
  /-- How many free values have been used (the model's own, log 14). -/
  freeCount : Nat := 0
  /-- The commands that wait, first in first out (the model's own, log 1). -/
  pending : List Instr := []
  deriving DecidableEq, Repr

/-- The faults of the model. No meaning raises one: every command of the table has the effect its rules give. -/
inductive Fault where
  /-- Kept so that the type is not empty. Nobody raises it; stopping would be safe. -/
  | unreachable
  deriving DecidableEq, Repr

/-- The refusals of the model. -/
inductive Refusal where
  /-- Raised by an arm of `exec` whose command has no meaning yet; safe, since the machine stops. No arm does. -/
  | notModelled (mnemonic : String)
  deriving DecidableEq, Repr

/-- The block count of a spool size class (Table 2-1). -/
def blockCount (size : Fin 4) : Nat := 8192 * 2 ^ size.val

/-- Every item of state right after a reset, given the spool size class and the settings in force (R2, R4, R7, R8,
R17, R18, R31, R32, R55, R57, R62, R63, R70, R88, R111, R135, R146, R156, R159, R168), before the end-of-reset
evaluation of SPOOL_LOW (R30). -/
def State.boot (size : Fin 4) (cfg : Settings) : State :=
  { smm := { sizeClass := size, free := List.range (blockCount size) }, cfg := cfg }

/-- The part right after power-on with strap setting 0 and a nonvolatile memory never written (R167, log 4). The
low-spool threshold of 512 is not above the 8,192 free blocks, so the evaluation of R30 changes nothing. -/
def State.reset : State := State.boot 0 Settings.factory

end Sys2Proof.Machine
end

