-- ==== Sys2Proof/Machine/Framing.lean ====
section
/-! DEFINITION. Frames on a link and the receiver that finds them: R1 and R2 (host link), R86 (press links). -/

namespace Sys2Proof.Machine

/-- The sync byte (R1). -/
def syncByte : Byte := 0xA6

/-- The longest payload a frame may carry (R1). -/
def maxPayload : Nat := 1040

/-- One bit of the check: generator 0x1021, most significant bit first (R1). -/
def crcBit (reg : BitVec 16) : BitVec 16 :=
  if reg.msb then (reg <<< 1) ^^^ 0x1021 else reg <<< 1

/-- One byte of the check, most significant bit first (R1). -/
def crcByte (reg : BitVec 16) (b : Byte) : BitVec 16 :=
  (List.range 8).foldl (fun r _ => crcBit r) (reg ^^^ (b.setWidth 16 <<< 8))

/-- The check of R1: initial value 0xFFFF, no bit reversal, no final inversion. -/
def crc16 (bytes : List Byte) : BitVec 16 := bytes.foldl crcByte 0xFFFF

/-- The bytes of a frame that its check covers: length, kind, tag and payload (R1). -/
def frameBody (f : Frame) : List Byte := be16 f.payload.length ++ [f.kind, f.tag] ++ f.payload

/-- A frame as it stands on the link (Table 1-7). -/
def frameBytes (f : Frame) : List Byte :=
  syncByte :: frameBody f ++ be16 (crc16 (frameBody f)).toNat

/-- What one byte brings about at a receiver (R2). -/
inductive RxEvent where
  /-- Nothing completes. -/
  | nothing
  /-- A frame is discarded for its length or its check. -/
  | discard
  /-- A frame is complete and its check agrees. -/
  | frame (f : Frame)
  deriving DecidableEq, Repr

/-- The frame that the bytes after a sync byte spell, once they are all there (R2). -/
def frameOf (got : List Byte) : Frame :=
  { kind := got.getD 2 0, tag := got.getD 3 0, payload := (got.drop 4).take (halfAt got 0) }

/-- IN_FRAME with `got` collected after the sync byte (R2). -/
def rxJudge (got : List Byte) : Rx × RxEvent :=
  if got.length < 2 then (.inFrame got, .nothing)
  else if halfAt got 0 > maxPayload then (.hunting, .discard)
  else if got.length < halfAt got 0 + 6 then (.inFrame got, .nothing)
  else if (crc16 (got.take (halfAt got 0 + 4))).toNat = halfAt got (halfAt got 0 + 4) then
    (.hunting, .frame (frameOf got))
  else (.hunting, .discard)

/-- One byte arrives at a receiver: HUNTING skips to the sync byte, IN_FRAME collects (R2). -/
def rxByte (r : Rx) (b : Byte) : Rx × RxEvent :=
  match r with
  | .hunting => if b = syncByte then (.inFrame [], .nothing) else (.hunting, .nothing)
  | .inFrame got => rxJudge (got ++ [b])

end Sys2Proof.Machine
end

