-- ==== Sys2Proof/Config.lean ====
section
/-! DEFINITION. What the manual leaves open and no command decides: free values, of which nothing is known. -/

namespace Sys2Proof

/-- "A failed write leaves the stored image in whatever form the fault left it" (R168): the stored image after the
n-th failed save, either contents with a check, or `none`, contents whose stored check is known not to agree.
A free value (log 14): it has no body, and nothing in the model depends on which image it is. -/
opaque Config.imageAfterFault : Nat → Option Machine.SettingsImage

/-- The 32-bit cyclic redundancy check that the SS computes over the contents of a settings image (R166). The manual
gives neither its generator polynomial nor the order in which the contents enter it, so the function is free
(log 30). -/
opaque Config.imageCheck : Machine.Settings → Word

/-- How much of the part's time base passes before the n-th command of the run, if nothing is to happen earlier: a free
value (log 10). No row of the table carries a length of time. -/
opaque Config.elapsed : Nat → Nat

/-- How fine the time base is: a second has one more unit than this. A free value (log 10). -/
opaque Config.fineness : Nat

/-- The units of the time base in a second (log 10). -/
def Config.second : Nat := Config.fineness + 1

end Sys2Proof
end

