-- ==== Sys2Proof/Machine/Ops.lean ====
section
/-! DEFINITION. The named reads and updates of State that every meaning uses, the notices of an act, and the facts of a port that several blocks ask for. -/

namespace Sys2Proof.Machine

/-! ### Tables indexed by number -/

/-- Port `p`. -/
def State.port (s : State) (p : PortNo) : Port := s.ports[p.val]'p.isLt

/-- Port `p` becomes `x`. -/
def State.setPort (s : State) (p : PortNo) (x : Port) : State :=
  { s with ports := s.ports.set p.val x p.isLt }

/-- Port `p` becomes `f` of itself. -/
def State.modPort (s : State) (p : PortNo) (f : Port → Port) : State := s.setPort p (f (s.port p))

/-- The settings of port `p` (Table 6-2). -/
def State.portCfg (s : State) (p : PortNo) : PortSettings := s.cfg.ports[p.val]'p.isLt

/-- The settings of port `p` become `x`. -/
def State.setPortCfg (s : State) (p : PortNo) (x : PortSettings) : State :=
  { s with cfg := { s.cfg with ports := s.cfg.ports.set p.val x p.isLt } }

/-- Destination record `d` (Table 4-1). -/
def State.dest (s : State) (d : Fin 32) : Dest := s.cfg.dests[d.val]'d.isLt

/-- Destination record `d` becomes `x`. -/
def State.setDest (s : State) (d : Fin 32) (x : Dest) : State :=
  { s with cfg := { s.cfg with dests := s.cfg.dests.set d.val x d.isLt } }

/-- The queue of destination `d` (R61). -/
def State.queue (s : State) (d : Fin 32) : List Nat := s.dt.queues[d.val]'d.isLt

/-- The queue of destination `d` becomes `q`. -/
def State.setQueue (s : State) (d : Fin 32) (q : List Nat) : State :=
  { s with dt := { s.dt with queues := s.dt.queues.set d.val q d.isLt } }

/-- Account record `a`, but for its reservation (Table 9-1). -/
def State.account (s : State) (a : Fin 128) : Account := s.cfg.accounts[a.val]'a.isLt

/-- Account record `a` becomes `x`. -/
def State.setAccount (s : State) (a : Fin 128) (x : Account) : State :=
  { s with cfg := { s.cfg with accounts := s.cfg.accounts.set a.val x a.isLt } }

/-- The reservation of account `a` (R140). -/
def State.reservation (s : State) (a : Fin 128) : Reserved := s.reserved[a.val]'a.isLt

/-- The reservation of account `a` becomes `x`. -/
def State.setReservation (s : State) (a : Fin 128) (x : Reserved) : State :=
  { s with reserved := s.reserved.set a.val x a.isLt }

/-- Alert entry `e` (Table 10-1). -/
def State.alert (s : State) (e : EntryNo) : Alert := s.au.alerts[e.val]'e.isLt

/-- Alert entry `e` becomes `x`. -/
def State.setAlert (s : State) (e : EntryNo) (x : Alert) : State :=
  { s with au := { s.au with alerts := s.au.alerts.set e.val x e.isLt } }

/-- The running fields of panel record `a` (R159). -/
def State.panel (s : State) (a : Fin 8) : Panel := s.pbc.panels[a.val]'a.isLt

/-- The running fields of panel record `a` become `x`. -/
def State.setPanel (s : State) (a : Fin 8) (x : Panel) : State :=
  { s with pbc := { s.pbc with panels := s.pbc.panels.set a.val x a.isLt } }

/-- The settings of panel record `a` (R159). -/
def State.panelCfg (s : State) (a : Fin 8) : PanelSettings := s.cfg.panels[a.val]'a.isLt

/-- The settings of panel record `a` become `x`. -/
def State.setPanelCfg (s : State) (a : Fin 8) (x : PanelSettings) : State :=
  { s with cfg := { s.cfg with panels := s.cfg.panels.set a.val x a.isLt } }

/-- The moment of the time base at which the current second of the shop clock ends (R11, R12). -/
def State.nextIncrement (s : State) : Nat := s.base.secondAt + Config.second

/-- The shop clock, as a reader gets it at the moment of its event (R11). -/
def State.clock (s : State) : Nat := s.mlc.clock

/-- The sixteen ports in ascending number. -/
def allPorts : List PortNo := [0, 1, 2, 3, 4, 5, 6, 7, 8, 9, 10, 11, 12, 13, 14, 15]

/-- The thirty-two destinations in ascending number. -/
def allDests : List (Fin 32) := List.finRange 32

/-- The lowest number from `k` on, among the next `fuel`, that is not used. -/
def lowestUnused (used : Nat → Bool) : (fuel k : Nat) → Option Nat
  | 0, _ => none
  | fuel + 1, k => if used k then lowestUnused used fuel (k + 1) else some k

/-! ### Jobs by number -/

/-- The record in use that holds job number `n`; 0 is held by none (R32). -/
def State.job? (s : State) (n : Nat) : Option Job :=
  if n = 0 then none else s.jt.jobs.find? (fun j => j.num == n)

/-- The first record that holds number `n` becomes `f` of itself. -/
def updateJob (n : Nat) (f : Job → Job) : List Job → List Job
  | [] => []
  | j :: js => if j.num = n then f j :: js else j :: updateJob n f js

/-- The record that holds job number `n` becomes `f` of itself. -/
def State.modJob (s : State) (n : Nat) (f : Job → Job) : State :=
  { s with jt := { s.jt with jobs := updateJob n f s.jt.jobs } }

/-- The job in the run slot of port `p`. -/
def State.runJob (s : State) (p : PortNo) : Option Job := (s.port p).run.bind s.job?

/-- The run slot of port `p` holds a RUNNING job. -/
def State.runRunning (s : State) (p : PortNo) : Bool :=
  match s.runJob p with
  | some j => j.state == .running
  | none => false

/-- The port whose run slot holds job `n`. -/
def State.runPort (s : State) (n : Nat) : Option PortNo :=
  allPorts.find? (fun p => (s.port p).run == some n)

/-- The port whose suspended slot holds job `n`. -/
def State.suspPort (s : State) (n : Nat) : Option PortNo :=
  allPorts.find? (fun p => match (s.port p).susp with
    | some x => x.job == n
    | none => false)

/-- The port whose incoming slot holds job `n`. -/
def State.incPort (s : State) (n : Nat) : Option PortNo :=
  allPorts.find? (fun p => (s.port p).inc == some n)

/-! ### Facts of a port -/

/-- The wake line is high while the link is WAKING, UP or RECOVERING (R88). -/
def Port.wakeLine (x : Port) : Bool :=
  match x.link with
  | .waking | .up | .recovering => true
  | .down | .offline => false

/-- A port is usable: link UP, READY, not JAMMED, pause set empty, force-off not pending (R92). -/
def Port.usable (x : Port) : Bool :=
  x.link == .up && x.ready && !x.jammed && !x.pauseHost && !x.pausePanel && !x.forceOff

/-- Port `x` can serve job `j`: its capability record is present and covers the job's classes (R63). -/
def Port.canServe (x : Port) (j : Job) : Bool :=
  match x.caps with
  | none => false
  | some c =>
    (c.colour == .color || j.colour == .mono) && (c.duplex || !j.duplex)
      && c.media.getLsbD j.media.val && c.size.getLsbD j.size.val

/-- The effective window the rules give: 0 while the link is not UP; else the lesser of the configured window and
the printer maximum, or the number of records in flight where that is larger (R99). -/
def Port.windowNow (x : Port) (configured : Nat) : Nat :=
  if x.link = .up then max (min configured (x.maxWindow.getD 0)) x.inFlight.length else 0

/-- The effective window of port `p` is recomputed (R99). -/
def refreshWindow (p : PortNo) (s : State) : State :=
  s.modPort p (fun x => { x with effWindow := x.windowNow (s.portCfg p).window })

/-! ### The notices of the act under way -/

/-- A notice with its contents is handed over (R8). -/
def State.note (s : State) (k : Byte) (contents : List Byte) : State :=
  { s with notes := s.notes ++ [.notice { kind := k, contents := contents }] }

/-- The act holds a JOB_EVENT for job `n` already. -/
def hasJobNote (n : Nat) (notes : List Note) : Bool :=
  notes.any (fun x => match x with
    | .job m _ => m == n
    | _ => false)

/-- The act holds a PORT_EVENT for port `p` already. -/
def hasPortNote (p : PortNo) (notes : List Note) : Bool :=
  notes.any (fun x => match x with
    | .port q => q == p
    | _ => false)

/-- The state of job `n` has changed for `reason`: one JOB_EVENT for the act, with the reason of the first
change (R33). -/
def State.noteJob (s : State) (n : Nat) (reason : JobReason) : State :=
  if hasJobNote n s.notes then s else { s with notes := s.notes ++ [.job n reason] }

/-- The link state or the printer condition of port `p` has changed: one PORT_EVENT for the act (R93). -/
def State.notePort (s : State) (p : PortNo) : State :=
  if hasPortNote p s.notes then s else { s with notes := s.notes ++ [.port p] }

/-- The press frame `f` is put on the press link of port `p`. -/
def State.send (s : State) (p : PortNo) (f : Frame) : State :=
  { s with pressOut := s.pressOut ++ [(p, f)] }

end Sys2Proof.Machine
end

