-- ==== Sys2Proof/Machine/Flags.lean ====
section
/-! DEFINITION. The code numbers and flag bytes that replies, notices and frames carry. -/

namespace Sys2Proof.Machine

/-- The status codes of Table 1-2, and REFUSED_RIGHTS (R162). -/
inductive Status where
  | ok | unknownKind | badLength | badField | badTag | noJob | noAccount | destDisabled | wrongState | depth
  | spoolFull | jobTableFull | imageTableFull | imageTooLarge | imageOpen | noImage | emptyJob | invalidTariff
  | saving | already | refusedRights
  deriving DecidableEq, Repr

def Status.code : Status → Nat
  | .ok => 0x00 | .unknownKind => 0x01 | .badLength => 0x02 | .badField => 0x03 | .badTag => 0x04
  | .noJob => 0x05 | .noAccount => 0x06 | .destDisabled => 0x07 | .wrongState => 0x08 | .depth => 0x09
  | .spoolFull => 0x0A | .jobTableFull => 0x0B | .imageTableFull => 0x0C | .imageTooLarge => 0x0D
  | .imageOpen => 0x0E | .noImage => 0x0F | .emptyJob => 0x10 | .invalidTariff => 0x11 | .saving => 0x12
  | .already => 0x13 | .refusedRights => 0x40

/-- Table 3-2. -/
def JobState.code : JobState → Nat
  | .spooling => 0 | .queued => 1 | .held => 2 | .running => 3 | .starved => 4 | .draining => 5
  | .suspended => 6 | .cancelling => 7 | .done => 8 | .cancelled => 9

/-- Table 3-4. -/
def JobReason.code : JobReason → Nat
  | .host => 0 | .panel => 1 | .credit => 2 | .data => 3 | .port => 4 | .dispatch => 5 | .delivery => 6 | .fault => 7

/-- The drain purpose as JOB_QUERY reports it (Table 3-5). -/
def Purpose.code : Purpose → Nat
  | .suspendInsert => 0 | .suspendHost => 1 | .hold => 2 | .credit => 3

def Colour.code : Colour → Nat
  | .mono => 0 | .color => 1

/-- R88. -/
def Link.code : Link → Nat
  | .down => 0 | .waking => 1 | .up => 2 | .recovering => 3 | .offline => 4

/-- R97. -/
def WakeMode.code : WakeMode → Nat
  | .auto => 0 | .forceOn => 1 | .forceOff => 2

/-- Table 6-4. -/
def SuspReason.code : SuspReason → Nat
  | .insert => 0 | .host => 1 | .ret => 2

/-- Table 1-10. -/
def FlightStage.code : FlightStage → Nat
  | .sending => 0 | .sent => 1 | .taken => 2

/-- R146. -/
def AlertKind.code : AlertKind → Nat
  | .jam => 0 | .stall => 1 | .linkLost => 2 | .wakeFail => 3 | .mediaOut => 4 | .slow => 5 | .door => 6
  | .spoolLow => 7

/-- R151. -/
def AlertState.code : AlertState → Nat
  | .quiet => 0 | .raised => 1 | .acked => 2 | .linger => 3

/-- Section 10.5. -/
def Lamp.code : Lamp → Nat
  | .off => 0 | .steady => 1 | .flash => 2

/-- Table 11-1. -/
def Rights.code : Rights → Nat
  | .view => 0 | .ack => 1 | .floor => 2 | .full => 3

/-- R153: 0-7 for a panel, 8 for the host, 255 when absent. -/
def ackedByCode : Option AckBy → Nat
  | none => 255
  | some .host => 8
  | some (.panel p) => p.val

/-- The condition byte of PORT_EVENT: bit 0 READY, bit 1 JAMMED, bit 2 door open (R93). -/
def Port.conditionByte (x : Port) : Nat := flagByte [x.ready, x.jammed, x.doorOpen]

/-- The port flags of PORT_QUERY: force-off pending, capability record present, SLOW on, usable (Table 6-4). -/
def Port.flags (x : Port) : Nat := flagByte [x.forceOff, x.caps.isSome, x.conds.slow, x.usable]

/-- The flags byte of the STATUS reply (Table 1-9). -/
def Mlc.flags (m : Mlc) : Nat := flagByte [m.resetSeen, m.clockUnset, m.defaultsLoaded]

/-- The hold-reason byte: bit 0 HOST, bit 1 PANEL, bit 2 CREDIT (Table 3-5). -/
def Holds.byte (h : Holds) : Nat := flagByte [h.host, h.panel, h.credit]

/-- The hold-reason set is empty (section 3.5). -/
def Holds.isEmpty (h : Holds) : Bool := !h.host && !h.panel && !h.credit

/-- The options byte of JOB_OPEN and JOB_QUERY: collate, early start, duplex (Table 1-8). -/
def Job.options (j : Job) : Nat := flagByte [j.collate, j.earlyStart, j.duplex]

/-- The presence flags of JOB_QUERY (Table 3-5). -/
def Job.presence (j : Job) : Nat :=
  flagByte [j.dataClosed, j.pinned, j.bound.isSome, j.firstDispatch.isSome, j.finished.isSome, j.queueEntry.isSome,
    j.purpose.isSome]

/-- The flags byte of ACCOUNT_SET and ACCOUNT_QUERY (R136). -/
def Account.flags (a : Account) : Nat := flagByte [a.isOpen, a.limited, a.fixed, a.exempt]

/-- The flags byte of ROUTE_SET and ROUTE_QUERY (Table 4-2). -/
def Dest.flags (d : Dest) : Nat := flagByte [d.enabled, d.insert]

/-! ### Alert entry numbers -/

/-- The number of the entry for port `p` and kind `k`, p x 7 + k; SPOOL_LOW is entry 112 (R146). -/
def entryNo (p : PortNo) (k : AlertKind) : EntryNo :=
  match k with
  | .spoolLow => 112
  | k => Fin.ofNat 113 (p.val * 7 + k.code)

/-- The SPOOL_LOW entry (R146). -/
def spoolLowEntry : EntryNo := 112

/-- The kind of entry `e` (R146). -/
def kindOf (e : EntryNo) : AlertKind :=
  if e.val = 112 then .spoolLow
  else match e.val % 7 with
    | 0 => .jam | 1 => .stall | 2 => .linkLost | 3 => .wakeFail | 4 => .mediaOut | 5 => .slow | _ => .door

/-- The port of entry `e`; SPOOL_LOW belongs to none (R146). -/
def portOf (e : EntryNo) : Option PortNo :=
  if h : e.val / 7 < 16 then some ⟨e.val / 7, h⟩ else none

/-- JAM, STALL, LINK_LOST and WAKE_FAIL are latched, the others self-clearing (R146). -/
def AlertKind.latched : AlertKind → Bool
  | .jam | .stall | .linkLost | .wakeFail => true
  | .mediaOut | .slow | .door | .spoolLow => false

end Sys2Proof.Machine
end

