-- ==== Sys2Proof/Machine/Alerts.lean ====
section
/-! DEFINITION. The Alert Unit: condition reports, acknowledgements, the announcement list, lamps and horn (chapter 10). -/

namespace Sys2Proof.Machine

/-- Some entry of port `p` of one of the kinds listed is in a state that `f` accepts. -/
def State.anyEntry (s : State) (p : PortNo) (kinds : List AlertKind) (f : AlertState → Bool) : Bool :=
  kinds.any (fun k => f (s.alert (entryNo p k)).state)

def latchedKinds : List AlertKind := [.jam, .stall, .linkLost, .wakeFail]

def selfClearingKinds : List AlertKind := [.mediaOut, .slow, .door]

/-- What the lamps of a port in AUTO show (R154). -/
def State.lampsNow (s : State) (p : PortNo) : Lamps :=
  { red :=
      if s.anyEntry p latchedKinds (fun a => a == .raised || a == .linger) then .flash
      else if s.anyEntry p latchedKinds (fun a => a == .acked) then .steady else .off
    amber :=
      if s.anyEntry p selfClearingKinds (fun a => a == .raised || a == .acked)
          || (s.port p).pauseHost || (s.port p).pausePanel || (s.port p).wakeMode == .forceOff then .steady
      else .off
    green := if (s.port p).usable && s.runRunning p then .steady else .off }

/-- The lamps of port `p` are evaluated; in lamp mode HOST they keep their values (R154, R155). -/
def evalLamps (p : PortNo) (s : State) : State :=
  if (s.portCfg p).lampHost then s else s.modPort p (fun x => { x with lamps := s.lampsNow p })

/-- The moment at which an entry in RAISED has spent this escalation time there, on the time base (R156). -/
def Alert.escalatesAt (a : Alert) (escalation : Nat) : Nat := a.raisedAt + escalation * Config.second

/-- The horn sounds while the escalation time is not 0, it is not silenced, and some entry has spent the escalation
time in RAISED (R156). -/
def State.hornNow (s : State) : Bool :=
  s.cfg.escalation != 0 && !s.au.silenced
    && s.au.alerts.toList.any (fun a => a.state == .raised && decide (a.escalatesAt s.cfg.escalation ≤ s.base.now))

/-- The horn is evaluated (R156). -/
def evalHorn (s : State) : State := { s with au := { s.au with horn := s.hornNow } }

/-- An ALERT_EVENT's contents (R151). -/
def alertEvent (e : EntryNo) (a : Alert) (transition : Nat) : List Byte :=
  be8 e.val ++ be8 transition ++ be8 a.state.code ++ be8 a.raiseCount ++ be32 (a.detail.getD 0)

/-- A transition of entry `e` to `a` with the announcement list becoming `list`; `raises` says that the entry enters
RAISED from another state, which ends a silence (R148, R150, R151, R154, R156, R157). -/
def alertMove (e : EntryNo) (a : Alert) (list : List EntryNo) (raises : Bool) (transition : Nat) (s : State) : State :=
  let s := s.setAlert e a
  let s := { s with au := { s.au with announced := list, silenced := s.au.silenced && !raises } }
  let s := evalHorn (s.note 0x71 (alertEvent e a transition))
  match portOf e with
  | some p => evalLamps p s
  | none => s

/-- The entry as it enters RAISED from another state, at this reading of the shop clock and this moment of the time base
(R148, R156). -/
def Alert.raise (a : Alert) (clock now : Nat) : Alert :=
  { a with state := .raised, raiseTime := clock, raiseCount := satAdd max8 a.raiseCount 1, ackedBy := none, raisedAt := now }

/-- A source reports condition on, with its detail where the kind carries one (R147, R148). -/
def alertOn (e : EntryNo) (detail : Option Nat) (s : State) : State :=
  let a := { s.alert e with on := true, detail := detail.orElse (fun _ => (s.alert e).detail) }
  match a.state with
  | .quiet => alertMove e (a.raise s.clock s.base.now) (s.au.announced ++ [e]) true 0 s
  | .linger => alertMove e (a.raise s.clock s.base.now) s.au.announced true 4 s
  | .raised => s.setAlert e a
  | .acked => s.setAlert e a

/-- A source reports condition off; the detail stays as it stood (R147, R148). -/
def alertOff (e : EntryNo) (s : State) : State :=
  let a := { s.alert e with on := false }
  match a.state with
  | .raised =>
    if (kindOf e).latched then alertMove e { a with state := .linger, raisedAt := 0 } s.au.announced false 2 s
    else alertMove e { a with state := .quiet, raisedAt := 0 } (s.au.announced.erase e) false 3 s
  | .acked => alertMove e { a with state := .quiet } s.au.announced false 3 s
  | .quiet => s.setAlert e a
  | .linger => s.setAlert e a

/-- A source repeats its report with a new detail (R149). -/
def alertRepeat (e : EntryNo) (detail : Nat) (s : State) : State :=
  let a := { s.alert e with detail := some detail }
  match a.state with
  | .acked => alertMove e (a.raise s.clock s.base.now) (s.au.announced ++ [e]) true 4 s
  | .raised => alertMove e { a with raiseCount := satAdd max8 a.raiseCount 1 } s.au.announced false 4 s
  | .quiet => s.setAlert e a
  | .linger => s.setAlert e a

/-- An acknowledgement may be taken: the entry is RAISED or LINGER (R152). -/
def Alert.ackable (a : Alert) : Bool := a.state == .raised || a.state == .linger

/-- Entry `e` is acknowledged: RAISED to ACKED, LINGER to QUIET; any other entry is left alone (R148, R152). -/
def alertAck (e : EntryNo) (by_ : AckBy) (s : State) : State :=
  let a := { s.alert e with ackedBy := some by_ }
  match a.state with
  | .raised => alertMove e { a with state := .acked, raisedAt := 0 } (s.au.announced.erase e) false 1 s
  | .linger => alertMove e { a with state := .quiet } (s.au.announced.erase e) false 5 s
  | .quiet => s
  | .acked => s

/-! ### The conditions a source holds -/

def Conds.get (c : Conds) : AlertKind → Bool
  | .jam => c.jam | .stall => c.stall | .linkLost => c.linkLost | .wakeFail => c.wakeFail
  | .mediaOut => c.mediaOut | .slow => c.slow | .door => c.door | .spoolLow => false

def Conds.set (c : Conds) (k : AlertKind) (v : Bool) : Conds :=
  match k with
  | .jam => { c with jam := v } | .stall => { c with stall := v } | .linkLost => { c with linkLost := v }
  | .wakeFail => { c with wakeFail := v } | .mediaOut => { c with mediaOut := v } | .slow => { c with slow := v }
  | .door => { c with door := v } | .spoolLow => c

/-- Condition `k` of port `p` comes on with its detail; one that is on already is left on and nothing is handed
over (R111). -/
def condOn (p : PortNo) (k : AlertKind) (detail : Option Nat) (s : State) : State :=
  if (s.port p).conds.get k then s
  else alertOn (entryNo p k) detail (s.modPort p (fun x => { x with conds := x.conds.set k true }))

/-- Condition `k` of port `p` goes off; one that is off already is left off and nothing is handed over (R111). -/
def condOff (p : PortNo) (k : AlertKind) (s : State) : State :=
  if (s.port p).conds.get k then
    alertOff (entryNo p k) (s.modPort p (fun x => { x with conds := x.conds.set k false }))
  else s

/-- MEDIA_OUT is on while the run slot holds a job whose media class is in the media-empty mask (R91). -/
def evalMedia (p : PortNo) (s : State) : State :=
  match s.runJob p with
  | some j =>
    if (s.port p).mediaEmpty.getLsbD j.media.val then condOn p .mediaOut (some j.media.val) s
    else condOff p .mediaOut s
  | none => condOff p .mediaOut s

/-- DOOR is on while the door is open (R91). -/
def evalDoor (p : PortNo) (s : State) : State :=
  if (s.port p).doorOpen then condOn p .door none s else condOff p .door s

end Sys2Proof.Machine
end

