-- ==== Sys2Proof/Machine/Spool.lean ====
section
/-! DEFINITION. The Spool Memory Manager: spool bytes, the free-block list, image records, SPOOL_LOW (chapter 2). -/

namespace Sys2Proof.Machine

/-! ### Spool memory -/

/-- The bytes of one spool block (R16). -/
def blockSize : Nat := 32768

/-- What an unlisted byte of spool memory reads as (log 5). -/
def spoolDefault : Byte := 0

/-- The byte at address `a`. -/
def memRead (m : List Host.Cell) (a : Nat) : Byte :=
  match m.find? (fun c => c.1 == a) with
  | some c => c.2
  | none => spoolDefault

/-- `v` is stored at address `a`, in canonical form. -/
def memWrite (m : List Host.Cell) (a : Nat) (v : Byte) : List Host.Cell :=
  match m with
  | [] => if v = spoolDefault then [] else [(a, v)]
  | c :: cs =>
    if a < c.1 then (if v = spoolDefault then c :: cs else (a, v) :: c :: cs)
    else if a = c.1 then (if v = spoolDefault then cs else (a, v) :: cs)
    else c :: memWrite cs a v

/-- The canonical form: addresses strictly rising from `low`, no entry that reads as an unlisted byte does. -/
def Memory.wfFrom (low : Nat) : List Host.Cell → Bool
  | [] => true
  | c :: cs => decide (low ≤ c.1) && c.2 != spoolDefault && Memory.wfFrom (c.1 + 1) cs

/-- The canonical form of spool memory. -/
def Memory.wf (m : List Host.Cell) : Bool := Memory.wfFrom 0 m

/-- The address of byte `j` of an image with this chain: chain position j div 32,768, offset j mod 32,768 (R16). -/
def byteAddr (chain : List Nat) (j : Nat) : Nat := chain.getD (j / blockSize) 0 * blockSize + j % blockSize

/-- The bytes are stored as bytes `n`, `n` + 1, ... of an image with this chain (R23). -/
def storeBytes (chain : List Nat) : Nat → List Byte → List Host.Cell → List Host.Cell
  | _, [], m => m
  | n, b :: bs, m => storeBytes chain (n + 1) bs (memWrite m (byteAddr chain n) b)

/-- The bytes of an image, first to last, in chain order and up to its length (R26). -/
def imageBytes (m : List Host.Cell) (i : Image) : List Byte :=
  (List.range i.length).map (fun j => memRead m (byteAddr i.chain j))

/-! ### Image records -/

/-- The most images a job may hold (R19). -/
def maxImages : Nat := 4096

/-- The image records of the table (R18). -/
def imageRecords : Nat := 16384

/-- The longest image (R16). -/
def maxImageLength : Nat := 8388608

/-- The image of job `n` at index `i` (R19). -/
def Smm.image? (m : Smm) (n i : Nat) : Option Image := m.images.find? (fun x => x.job == n && x.index == i)

/-- The BUILDING image of job `n` (R19). -/
def Smm.building? (m : Smm) (n : Nat) : Option Image := m.images.find? (fun x => x.job == n && !x.complete)

/-- How many images job `n` holds, BUILDING and COMPLETE together (R19). -/
def Smm.imageCount (m : Smm) (n : Nat) : Nat := (m.images.filter (fun x => x.job == n)).length

/-- The unused image record with the lowest number (R18). -/
def Smm.freeRecord (m : Smm) : Option Nat :=
  lowestUnused (fun r => m.images.any (fun x => x.record == r)) imageRecords 0

/-- An image record joins the records in use, kept in ascending record number. -/
def insertImage (i : Image) : List Image → List Image
  | [] => [i]
  | x :: xs => if i.record < x.record then i :: x :: xs else x :: insertImage i xs

/-- The image record `r` becomes `f` of itself. -/
def updateImage (r : Nat) (f : Image → Image) : List Image → List Image
  | [] => []
  | x :: xs => if x.record = r then f x :: xs else x :: updateImage r f xs

/-- The chains of job `n`'s images, in order of image index (R27). -/
def Smm.chainsOf (m : Smm) (n : Nat) : List Nat :=
  (List.range (m.imageCount n)).flatMap (fun i => match m.image? n i with
    | some x => x.chain
    | none => [])

/-! ### SPOOL_LOW and freeing -/

/-- SPOOL_LOW is on while the threshold is not 0 and the free count is below it (R30). -/
def State.spoolLowNow (s : State) : Bool := s.cfg.lowSpool != 0 && decide (s.smm.free.length < s.cfg.lowSpool)

/-- SPOOL_LOW is evaluated, and a change is handed to the Alert Unit (R30). -/
def evalSpoolLow (s : State) : State :=
  if s.spoolLowNow = s.smm.low then s
  else
    let t := { s with smm := { s.smm with low := s.spoolLowNow } }
    if s.spoolLowNow then alertOn spoolLowEntry (some s.smm.free.length) t else alertOff spoolLowEntry t

/-- The images of job `n` are freed in one act, and SPOOL_LOW is evaluated once (R27). -/
def freeImages (n : Nat) (s : State) : State :=
  evalSpoolLow { s with smm := { s.smm with
    free := s.smm.free ++ s.smm.chainsOf n
    images := s.smm.images.filter (fun x => x.job != n) } }

end Sys2Proof.Machine
end

