-- ==== Sys2Proof/Machine/Tariffs.lean ====
section
/-! DEFINITION. The Meter Unit's consistency check and sheet charge (chapter 8). -/

namespace Sys2Proof.Machine

/-- The consistency check of a tariff sheet: 0 pass, 1 THRESHOLDS, 2 DISCOUNT, 3 SIZE_FACTOR (R122). -/
def Tariff.check (t : Tariff) : Nat :=
  if ¬ (t.t1 < t.t2 ∧ t.t2 < t.t3) then 1
  else if t.discount.toList.any (fun p => decide (90 < p)) then 2
  else if t.size.toList.any (fun f => f == 0) then 3
  else 0

/-- A sheet is consistent when its check passes (R122). -/
def Tariff.consistent (t : Tariff) : Bool := t.check == 0

/-- The index of colour class and media class in the table of base prices (Table 8-1). -/
def baseIndex (c : Colour) (m : Fin 8) : Fin 16 :=
  match c with
  | .mono => ⟨m.val, by omega⟩
  | .color => ⟨8 + m.val, by omega⟩

/-- The gross amount, in 1/256 mill (R131). -/
def Tariff.gross (t : Tariff) (c : Colour) (m z : Fin 8) (sides : Nat) : Nat :=
  t.base[(baseIndex c m).val]'(baseIndex c m).isLt * t.size[z.val]'z.isLt * (16 + (sides - 1) * t.second)

/-- The tier of a count of impressions (R132). -/
def Tariff.tier (t : Tariff) (n : Nat) : Fin 4 :=
  if n < t.t1 then 0 else if n < t.t2 then 1 else if n < t.t3 then 2 else 3

/-- The tier a sheet is priced at: 0 for a FIXED account (R132). -/
def Tariff.tierFor (t : Tariff) (a : Account) (n : Nat) : Fin 4 := if a.fixed then 0 else t.tier n

/-- The sheet charge in mills: 0 for an EXEMPT account, else the discounted amount rounded to the nearest mill, an
exact half up (R131, R132, R133). -/
def Tariff.charge (t : Tariff) (a : Account) (n : Nat) (c : Colour) (m z : Fin 8) (sides : Nat) : Nat :=
  if a.exempt then 0
  else (t.gross c m z sides * (100 - t.discount[(t.tierFor a n).val]'(t.tierFor a n).isLt) + 12800) / 25600

/-- The tier count of account `a`: its period impressions plus its reserved impressions (R130). -/
def State.tierCount (s : State) (a : Fin 128) : Nat :=
  (s.account a).periodImpressions + (s.reservation a).impressions

/-- The charge of a sheet of job `j` with these sides, priced now from the ACTIVE sheet (R130). -/
def State.sheetCharge (s : State) (j : Job) (sides : Nat) : Nat :=
  s.cfg.active.charge (s.account j.account) (s.tierCount j.account) j.colour j.media j.size sides

/-- The credit check: an account that is not LIMITED passes; a LIMITED one passes when period charged, reserved and
the charge together are at or below the limit (R139). -/
def State.creditPasses (s : State) (a : Fin 128) (charge : Nat) : Bool :=
  !(s.account a).limited
    || decide ((s.account a).periodCharged + (s.reservation a).mills + charge ≤ (s.account a).limit)

/-- The charge and the sides of a sheet are reserved (R140). -/
def reserve (a : Fin 128) (charge sides : Nat) (s : State) : State :=
  s.setReservation a { mills := (s.reservation a).mills + charge
                       impressions := (s.reservation a).impressions + sides }

/-- Reserved charges and sides are released (R141, R142). -/
def release (a : Fin 128) (charge sides : Nat) (s : State) : State :=
  s.setReservation a { mills := (s.reservation a).mills - charge
                       impressions := (s.reservation a).impressions - sides }

/-- A delivered sheet moves from reserved to charged (R141). -/
def chargeAccount (a : Fin 128) (charge sides : Nat) (s : State) : State :=
  let x := s.account a
  release a charge sides (s.setAccount a { x with
    periodCharged := satAdd max32 x.periodCharged charge
    lifeCharged := satAdd max48 x.lifeCharged charge
    periodImpressions := satAdd max32 x.periodImpressions sides
    lifeImpressions := satAdd max48 x.lifeImpressions sides
    periodSheets := satAdd max32 x.periodSheets 1 })

end Sys2Proof.Machine
end

