-- ==== Sys2Proof/Machine/Jobs.lean ====
section
/-! DEFINITION. The Job Table's shared operations, and the slots and queues a job enters and leaves (chapters 3, 4, 5). Each returns the tasks that follow in the same act. -/

namespace Sys2Proof.Machine

/-- What ended a drain or a cancel (R47, R49). -/
inductive EndCause where
  /-- The act in which it began, nothing being in flight. -/
  | start
  /-- An OUT. -/
  | out
  /-- A rewind. -/
  | rewind
  deriving DecidableEq, Repr

/-- What follows in the same act from something that has just happened. Tasks are run one at a time, and those a
task brings about are run before the tasks that waited behind it (log 8, log 16). -/
inductive Task where
  /-- The port pulls, or takes its incoming job (R66, R67, R76). -/
  | pull (p : PortNo)
  /-- The port tests whether it dispatches (R101). -/
  | dispatch (p : PortNo)
  /-- A job that joined its destination's queue is offered (R64). -/
  | offer (n : Nat)
  /-- The run job may be DONE, or its drain or cancel may end (R43, R47, R49). -/
  | runEnd (p : PortNo) (cause : EndCause)
  /-- CREDIT is removed from a job (R46, R144). -/
  | creditClear (n : Nat)
  /-- The JAM condition comes on (R112 step 5). -/
  | jamOn (p : PortNo) (location : Nat)
  /-- Steps 3 and 4 of a stall (R117). -/
  | stallTail (p : PortNo) (detail : Nat)
  /-- The wake table, the busy flag and the lamps of every port (R94, R95, R105, R154; log 6). -/
  | settle
  /-- A notice that comes after the notices of the act's effects (R163). -/
  | note (kind : Byte) (contents : List Byte)
  deriving DecidableEq, Repr

/-! ### The record -/

/-- The dispatch limit (R39). -/
def Job.limit (j : Job) : Nat :=
  if j.dataClosed then j.total.getD 0
  else if j.collate then j.complete
  else j.copies * j.complete

/-- The image index and the copy at sequence position `p` (R38). -/
def Job.place (j : Job) (p : Nat) : Nat × Nat :=
  if j.collate then (p % j.complete, p / j.complete) else (p / j.copies, p % j.copies)

/-- A job in a run slot is STARVED while its data is open and its cursor equals its limit, and RUNNING
otherwise (R41). -/
def Job.runState (j : Job) : JobState :=
  if !j.dataClosed && j.cursor == j.limit then .starved else .running

/-- The job has finished or is on its way to it by a cancel: CANCELLING, DONE or CANCELLED. -/
def JobState.ending : JobState → Bool
  | .cancelling | .done | .cancelled => true
  | _ => false

/-- The port stops holding a RUNNING job or being usable: its busy flag is cleared for the rest of the window (R105). -/
def clearBusy (p : PortNo) (s : State) : State := s.modPort p (fun x => { x with busy := false })

/-- Job `n` changes state for `reason`: the JOB_EVENT of the act (R33), and the busy flag of a port whose run slot
thereby stops holding a RUNNING job (R105). A job already in that state does not change. -/
def setJobState (n : Nat) (st : JobState) (reason : JobReason) (s : State) : State :=
  match s.job? n with
  | none => s
  | some j =>
    if j.state = st then s
    else
      let s := (s.modJob n (fun j => { j with state := st })).noteJob n reason
      if st = .running then s
      else match s.runPort n with
        | some p => clearBusy p s
        | none => s

/-- The test of R41, made for a job that is RUNNING or STARVED. -/
def starvedTest (n : Nat) (reason : JobReason) (s : State) : State :=
  match s.job? n with
  | none => s
  | some j => if j.state = .running ∨ j.state = .starved then setJobState n j.runState reason s else s

/-! ### Slots -/

/-- The run slot of port `p` empties: its busy flag goes (R105) and MEDIA_OUT is evaluated (R91). -/
def leaveRun (p : PortNo) (s : State) : State :=
  evalMedia p (s.modPort p (fun x => { x with run := none, busy := false }))

/-- Job `n` is taken into the run slot of port `p`: bound port and first-dispatch time (R42), RUNNING or STARVED
(R41, R68), MEDIA_OUT (R91). The port has demand now, so its idle timer stops, even where the job leaves the slot again in
the same act; it then starts again from the full idle time (R95). -/
def enterRun (p : PortNo) (n : Nat) (s : State) : State :=
  let s := s.modPort p (fun x => { x with run := some n, idleTimer := none })
  let s := s.modJob n (fun j => { j with
    bound := some p, queueEntry := none, firstDispatch := some (j.firstDispatch.getD s.clock) })
  let s := match s.job? n with
    | some j => setJobState n j.runState .port s
    | none => s
  evalMedia p s

/-! ### Queues -/

/-- Job `a` is placed ahead of job `b` in queue order (R61). -/
def Job.ahead (a b : Job) : Bool :=
  (a.rush && !b.rush)
    || (a.rush == b.rush && (decide (b.priority < a.priority)
      || (a.priority == b.priority && decide (a.queueEntry.getD 0 < b.queueEntry.getD 0))))

/-- A destination queue with job `j` in its place: before the first job it is ahead of (R61). -/
def placeInQueue (s : State) (j : Job) : List Nat → List Nat
  | [] => [j.num]
  | b :: bs =>
    match s.job? b with
    | some k => if j.ahead k then j.num :: b :: bs else b :: placeInQueue s j bs
    | none => b :: placeInQueue s j bs

/-- The pinned queue that job `j` joins when it is queued: that of its bound port, if it is pinned (R60, R62). -/
def Job.pinnedAt (j : Job) : Option PortNo := if j.pinned then j.bound else none

/-- Job `n` enters QUEUED for `reason`: queue entry time, its queue, and what follows: a pull of the port whose
pinned queue it joined, or an offer by its destination (R45, R60, R62, R64). -/
def joinQueue (n : Nat) (reason : JobReason) (s : State) : State × List Task :=
  let s := s.modJob n (fun j => { j with queueEntry := some s.clock })
  match s.job? n with
  | none => (s, [])
  | some j =>
    match j.pinnedAt with
    | some b =>
      (setJobState n .queued reason (s.modPort b (fun x => { x with pinnedQ := x.pinnedQ ++ [n] })), [.pull b])
    | none =>
      (setJobState n .queued reason (s.setQueue j.dest (placeInQueue s j (s.queue j.dest))), [.offer n])

/-- Job `j` leaves the queue it stands in, and its queue entry time becomes absent (R60). -/
def leaveQueue (j : Job) (s : State) : State :=
  let s := match j.pinnedAt with
    | some b => s.modPort b (fun x => { x with pinnedQ := x.pinnedQ.erase j.num })
    | none => s.setQueue j.dest ((s.queue j.dest).erase j.num)
  s.modJob j.num (fun j => { j with queueEntry := none })

/-- Job `j` is taken out of the slot that holds it; the port then pulls, which does nothing while its run slot holds
a job (R66). -/
def leaveSlot (j : Job) (s : State) : State × List Task :=
  match s.runPort j.num with
  | some p => (leaveRun p s, [.pull p])
  | none =>
    match s.suspPort j.num with
    | some p => (s.modPort p (fun x => { x with susp := none }), [.pull p])
    | none =>
      match s.incPort j.num with
      | some p => (s.modPort p (fun x => { x with inc := none }), [.pull p])
      | none => (s, [])

/-- Job `j` is taken out of whatever queue or slot holds it. -/
def detach (j : Job) (s : State) : State × List Task :=
  match j.state with
  | .queued => (leaveQueue j s, [])
  | .running | .starved | .draining | .cancelling | .suspended => leaveSlot j s
  | .spooling | .held | .done | .cancelled => (s, [])

/-! ### The end of a job -/

/-- Job `j` goes to DONE or CANCELLED, `st`: out of its queue or slot, purpose discarded, unpinned, finished time,
images freed, on the finished list (R43, R48, R49, R51). -/
def finishJob (j : Job) (st : JobState) (reason : JobReason) (s : State) : State × List Task :=
  let r := detach j s
  let s := r.1.modJob j.num (fun j => { j with
    purpose := none, pinned := false, queueEntry := none, finished := some s.clock })
  let s := freeImages j.num s
  let s := { s with jt := { s.jt with finished := s.jt.finished ++ [j.num] } }
  (setJobState j.num st reason s, r.2)

/-- A job leaves SPOOLING: to HELD with hold reasons, to QUEUED without (R36). -/
def leaveSpooling (j : Job) (s : State) : State × List Task :=
  if j.holds.isEmpty then joinQueue j.num .data s else (setJobState j.num .held .data s, [])

/-! ### Drains -/

/-- A drain of the run job of port `p` begins (R71); one with nothing in flight ends in the same act. -/
def beginDrain (p : PortNo) (n : Nat) (purpose : Purpose) (reason : JobReason) (s : State) : State × List Task :=
  (setJobState n .draining reason (s.modJob n (fun j => { j with purpose := some purpose })), [.runEnd p .start])

/-- The reason a drain or cancel that ends gives its change of state (R47, R49); `done` says that the change is to
DONE or CANCELLED. A drain for SUSPEND_HOST that a rewind ends gives FAULT, as R47 says, where R79 says PORT (log 33). -/
def EndCause.reason (c : EndCause) (done : Bool) : JobReason :=
  match c with
  | .out => if done then .delivery else .port
  | .rewind => .fault
  | .start => .port

/-- The suspended slot's reason at the end of a drain for suspension (R75, R79). -/
def Purpose.suspReason : Purpose → SuspReason
  | .suspendInsert => .insert
  | _ => .host

/-- A drain ends with nothing in flight (R47, R75, R79). -/
def endDrain (p : PortNo) (j : Job) (cause : EndCause) (s : State) : State × List Task :=
  if j.dataClosed ∧ j.total = some j.delivered then finishJob j .done (cause.reason true) s
  else
    let s := s.modJob j.num (fun j => { j with purpose := none })
    if !j.holds.isEmpty then (setJobState j.num .held (cause.reason false) (leaveRun p s), [.pull p])
    else if j.purpose = some .suspendInsert ∨ j.purpose = some .suspendHost then
      let why := (j.purpose.getD .suspendHost).suspReason
      let s := (leaveRun p s).modPort p (fun x => { x with susp := some { job := j.num, reason := why } })
      (setJobState j.num .suspended (cause.reason false) s, [.pull p])
    else
      let r := joinQueue j.num (cause.reason false) (leaveRun p s)
      (r.1, .pull p :: r.2)

/-- The run job of port `p` is looked at after an OUT, a rewind or the start of a drain or cancel: a CANCELLING job
with nothing in flight is CANCELLED (R49), an OUT that completes closed data makes the job DONE (R43), and a DRAINING
job with nothing in flight ends its drain (R47). -/
def runEnd (p : PortNo) (cause : EndCause) (s : State) : State × List Task :=
  match s.runJob p with
  | none => (s, [])
  | some j =>
    if j.state = .cancelling then
      if j.inFlight = 0 then finishJob j .cancelled (cause.reason true) s else (s, [])
    else if cause = .out ∧ j.dataClosed ∧ j.total = some j.delivered then finishJob j .done .delivery s
    else if j.state = .draining ∧ j.inFlight = 0 then endDrain p j cause s
    else (s, [])

/-! ### Credit -/

/-- A credit stop of the run job of port `p` (R46, R143). -/
def creditStop (p : PortNo) (n : Nat) (s : State) : State × List Task :=
  beginDrain p n .credit .credit (s.modJob n (fun j => { j with holds := { j.holds with credit := true } }))

/-- CREDIT is removed from job `n`; a HELD job left with no reason is queued again (R46, R144). -/
def creditClear (n : Nat) (s : State) : State × List Task :=
  match s.job? n with
  | none => (s, [])
  | some j =>
    let s := s.modJob n (fun j => { j with holds := { j.holds with credit := false } })
    if j.state = .held ∧ !j.holds.host ∧ !j.holds.panel then joinQueue n .credit s else (s, [])

/-- The credit clears of account `a`, one for each job record that names it, in ascending record order (R144). -/
def State.clearTasks (s : State) (a : Fin 128) : List Task :=
  (s.jt.jobs.filter (fun j => j.account == a)).map (fun j => .creditClear j.num)

/-! ### Job numbers and records -/

/-- The number after `n` in the order of issue: 65,535 is followed by 1 (R32). -/
def nextNumber (n : Nat) : Nat := if 65535 ≤ n then 1 else n + 1

/-- The next number that no record in use holds (R32); 257 tries always suffice, since at most 256 are held. -/
def issueNumber (held : Nat → Bool) : (fuel last : Nat) → Nat
  | 0, last => nextNumber last
  | fuel + 1, last => if held (nextNumber last) then issueNumber held fuel (nextNumber last) else nextNumber last

/-- A job record joins the records in use, kept in ascending record number. -/
def insertJob (j : Job) : List Job → List Job
  | [] => [j]
  | x :: xs => if j.record < x.record then j :: x :: xs else x :: insertJob j xs

/-- The free job record with the lowest number, of 256 (R31, R35). -/
def Jt.freeRecord (t : Jt) : Option Nat := lowestUnused (fun r => t.jobs.any (fun j => j.record == r)) 256 0

/-- The record of job `n` is freed and it leaves the finished list (R51, R52). -/
def freeRecord (n : Nat) (s : State) : State :=
  { s with jt := { s.jt with
      jobs := s.jt.jobs.filter (fun j => j.num != n)
      finished := s.jt.finished.erase n } }

end Sys2Proof.Machine
end

