-- ==== Sys2Proof/Machine/Scheduler.lean ====
section
/-! DEFINITION. Offer, insertion, pull and dispatch: how jobs reach ports and sheets reach printers (chapters 4, 5, 6). -/

namespace Sys2Proof.Machine

/-! ### Offer and insertion -/

/-- Member `p` takes an offered job: run slot empty, usable, able to serve it (R64). -/
def offerTakes (s : State) (j : Job) (p : PortNo) : Bool :=
  (s.port p).run.isNone && (s.port p).usable && (s.port p).canServe j

/-- Port `p` can make room for RUSH job `j`: a NORMAL job RUNNING or STARVED in its run slot, its other slots empty,
usable, able to serve (R73). -/
def insertionFits (s : State) (j : Job) (p : PortNo) : Bool :=
  (match s.runJob p with
    | some v => !v.rush && (v.state == .running || v.state == .starved)
    | none => false)
    && (s.port p).susp.isNone && (s.port p).inc.isNone && (s.port p).usable && (s.port p).canServe j

/-- The insertion of RUSH job `j` at port `p`: it enters the incoming slot, and the victim begins its drain (R74). -/
def insertAt (p : PortNo) (j : Job) (s : State) : State × List Task :=
  let s := leaveQueue j s
  let s := setJobState j.num .suspended .port (s.modPort p (fun x => { x with inc := some j.num }))
  match (s.port p).run with
  | some v => beginDrain p v .suspendInsert .port s
  | none => (s, [.pull p])

/-- The offer of job `n` (R64), with the insertion search of a RUSH job that is placed nowhere (R73). A job that is
no longer in its destination's queue, and a destination that is not ENABLED, offer nothing (R58, R65). -/
def offerJob (n : Nat) (s : State) : State × List Task :=
  match s.job? n with
  | none => (s, [])
  | some j =>
    let d := s.dest j.dest
    if !d.enabled || j.pinnedAt.isSome || !(s.queue j.dest).contains n then (s, [])
    else match d.members.find? (offerTakes s j) with
      | some p => (enterRun p n (leaveQueue j s), [.dispatch p])
      | none =>
        if j.rush && d.insert then
          match d.members.find? (insertionFits s j) with
          | some p => insertAt p j s
          | none => (s, [])
        else (s, [])

/-! ### Pull -/

/-- The candidate that destination `d` puts forward for port `p`: if it is ENABLED and lists the port, the first job
in queue order that the port can serve (R67 step 3). -/
def candidate (s : State) (p : PortNo) (d : Fin 32) : Option (Fin 32 × Job) :=
  if (s.dest d).enabled && (s.dest d).members.contains p then
    (((s.queue d).find? (fun n => match s.job? n with
      | some j => (s.port p).canServe j
      | none => false)).bind s.job?).map (fun j => (d, j))
  else none

/-- The better of two candidates; of equals, the one from the lower-numbered destination, which comes first
(R67 step 3). -/
def betterJob (best : Option (Fin 32 × Job)) (next : Option (Fin 32 × Job)) : Option (Fin 32 × Job) :=
  match best, next with
  | none, x => x
  | some a, none => some a
  | some a, some b => if b.2.ahead a.2 then some b else some a

/-- The candidate that port `p` takes, with the destination that puts it forward (R67 step 3). -/
def bestCandidate (s : State) (p : PortNo) : Option (Fin 32 × Job) :=
  allDests.foldl (fun best d => betterJob best (candidate s p d)) none

/-- Job `j` is taken from the queue of destination `d` into the run slot of port `p` (R67, R68). -/
def takeQueued (p : PortNo) (d : Fin 32) (j : Job) (s : State) : State × List Task :=
  (enterRun p j.num (s.setQueue d ((s.queue d).erase j.num)), [.dispatch p])

/-- Steps 2 and 3 of a pull (R67). -/
def pullQueues (p : PortNo) (s : State) : State × List Task :=
  if !(s.port p).usable then (s, [])
  else match (s.port p).pinnedQ with
    | n :: rest =>
      let s := s.modPort p (fun x => { x with pinnedQ := rest })
      (enterRun p n s, [.dispatch p])
    | [] =>
      match bestCandidate s p with
      | some (d, j) => takeQueued p d j s
      | none => (s, [])

/-- The run slot of port `p` is filled if it is empty: by the incoming job (R76), else by a pull (R66, R67): the
suspended job with reason INSERT or RETURN, usable or not (R81), then the pinned queue, then the destinations. -/
def pull (p : PortNo) (s : State) : State × List Task :=
  let x := s.port p
  if x.run.isSome then (s, [])
  else match x.inc with
    | some n => (enterRun p n (s.modPort p (fun x => { x with inc := none })), [.dispatch p])
    | none =>
      match x.susp with
      | some u =>
        if u.reason = .host then pullQueues p s
        else (enterRun p u.job (s.modPort p (fun x => { x with susp := none })), [.dispatch p])
      | none => pullQueues p s

/-! ### Dispatch and transfer -/

/-- The bytes cut into SHEET_BODY payloads of 1,024 bytes, the last with the remainder (R102). -/
def chunks : (fuel : Nat) → List Byte → List (List Byte)
  | 0, _ => []
  | _ + 1, [] => []
  | fuel + 1, b :: bs => (b :: bs).take 1024 :: chunks fuel ((b :: bs).drop 1024)

/-- SHEET_HEAD for a sheet of job `j` (Table 1-12). -/
def sheetHead (j : Job) (f : Flight) (i : Image) : Frame :=
  { kind := 0x02, tag := f.tag
    payload := be16 f.job ++ be32 f.pos ++ be16 f.index ++ be16 f.copy ++ be8 f.sides ++ be32 (f.offset.getD 0)
      ++ be32 i.length ++ be8 j.colour.code ++ be8 j.media.val ++ be8 j.size.val }

/-- The frames of a transfer: SHEET_HEAD, the image in SHEET_BODY frames, SHEET_TAIL (R102). -/
def transferFrames (j : Job) (f : Flight) (i : Image) (bytes : List Byte) : List Frame :=
  sheetHead j f i :: (chunks bytes.length bytes).map (fun c => { kind := 0x03, tag := f.tag, payload := c })
    ++ [{ kind := 0x04, tag := f.tag, payload := [] }]

/-- The conditions of a dispatch at port `p` of its run job `j` (R101). -/
def dispatchReady (s : State) (p : PortNo) (j : Job) : Bool :=
  (s.port p).usable && j.state == .running && decide (j.cursor < j.limit)
    && decide ((s.port p).inFlight.length < (s.port p).effWindow)
    && (s.port p).inFlight.all (fun f => f.stage == .taken)

/-- The in-flight record of the sheet of image `i` at the cursor of run job `j`: the image's sides and side-2 offset are
read into it (R26, R38, R100, section 6.6). -/
def newFlight (s : State) (p : PortNo) (j : Job) (i : Image) : Flight :=
  let sides := i.sides.getD 1
  { job := j.num, pos := j.cursor, index := (j.place j.cursor).1, copy := (j.place j.cursor).2
    tag := (s.port p).nextTag, sides := sides, offset := i.offset, charge := s.sheetCharge j sides, stage := .sending }

/-- Steps 3 to 5 of a dispatch (R101): the record joins the tail under the next link tag, the cursor and the in-flight
count go up, the job is tested for STARVED, the transfer begins. -/
def sendSheet (p : PortNo) (j : Job) (i : Image) (f : Flight) (s : State) : State :=
  let s := s.modPort p (fun x => { x with
    inFlight := x.inFlight ++ [f]
    nextTag := x.nextTag + 1
    transfer := transferFrames j f i (imageBytes s.smm.spool i) })
  let s := s.modJob j.num (fun j => { j with cursor := j.cursor + 1, inFlight := j.inFlight + 1 })
  starvedTest j.num .dispatch s

/-- A dispatch at port `p`, if the conditions of R101 hold, in the act of the event after which they hold (log 26): the
sheet is priced, checked against credit and reserved, or the job meets a credit stop (R101, R130, R139, R140, R143). -/
def dispatch (p : PortNo) (s : State) : State × List Task :=
  match s.runJob p with
  | none => (s, [])
  | some j =>
    if !dispatchReady s p j then (s, [])
    else match s.smm.image? j.num (j.place j.cursor).1 with
      | none => (s, [])
      | some i =>
        let f := newFlight s p j i
        if s.creditPasses j.account f.charge then
          (sendSheet p j i f (reserve j.account f.charge f.sides s), [])
        else creditStop p j.num s

end Sys2Proof.Machine
end

