-- ==== Sys2Proof/Machine/Link.lean ====
section
/-! DEFINITION. The link of a port: states, wake control, rate windows, rewind, stall and recovery (chapters 6 and 7). -/

namespace Sys2Proof.Machine

/-! ### Frames the part sends on its own -/

def hailFrame : Frame := { kind := 0x01, tag := 0, payload := [] }

def breakFrame : Frame := { kind := 0x05, tag := 0, payload := [] }

/-! ### Link state and printer condition -/

/-- The link of port `p` becomes `l`: the effective window is recomputed (R99), and a change is reported (R93). -/
def setLink (p : PortNo) (l : Link) (s : State) : State :=
  if (s.port p).link = l then s
  else refreshWindow p ((s.modPort p (fun x => { x with link := l })).notePort p)

/-- The printer condition of port `p` becomes as given, and a change is reported (R91, R93). -/
def setCondition (p : PortNo) (ready jammed door : Bool) (mask : Byte) (s : State) : State :=
  let x := s.port p
  if x.ready = ready ∧ x.jammed = jammed ∧ x.doorOpen = door ∧ x.mediaEmpty = mask then s
  else (s.modPort p (fun x => { x with ready := ready, jammed := jammed, doorOpen := door, mediaEmpty := mask })).notePort p

/-- The conditions of a fresh busy flag: the port is usable and its run slot holds a RUNNING job (R105). -/
def State.busyNow (s : State) (p : PortNo) : Bool := (s.port p).usable && s.runRunning p

/-- A new rate window starts at port `p` (R105). -/
def startRateWindow (p : PortNo) (s : State) : State :=
  s.modPort p (fun x => { x with rateCount := 0, busy := s.busyNow p })

/-- What the link's leaving UP does besides its new state: the printer condition, DOOR, MEDIA_OUT and SLOW, the rate
window, the idle timer, the watchdog (R90, R115). -/
def clearUp (p : PortNo) (s : State) : State :=
  let s := setCondition p false (s.port p).jammed false 0 s
  let s := condOff p .slow (condOff p .mediaOut (condOff p .door s))
  s.modPort p (fun x => { x with rateCount := 0, busy := false, idleTimer := none, watchdog := none, transfer := [] })

/-- The link of port `p` goes to DOWN from any state: every timer and attempt stops, force-off is no longer pending
(R90, R94). -/
def goDown (p : PortNo) (s : State) : State :=
  (setLink p .down s).modPort p (fun x => { x with
    forceOff := false, wakeTimer := none, hailTimer := false, attempt := none, idleTimer := none })

/-- The link of port `p` leaves UP for DOWN (R90). -/
def leaveUpDown (p : PortNo) (s : State) : State := clearUp p (goDown p s)

/-- Port `p` enters WAKING: HAIL is sent, the HAIL timer and the wake timer start (R96). -/
def enterWaking (p : PortNo) (s : State) : State :=
  ((setLink p .waking s).modPort p (fun x => { x with
    hailTimer := true, wakeTimer := some (s.portCfg p).wake })).send p hailFrame

/-- A recovery attempt begins: BREAK, then HAIL, and the attempt timer (R118). -/
def beginAttempt (p : PortNo) (k : Nat) (s : State) : State :=
  ((s.modPort p (fun x => { x with attempt := some k })).send p breakFrame).send p hailFrame

/-! ### Demand and the wake table -/

/-- An ENABLED destination that lists port `p` holds a queued job the port can serve; a port with no capability
record counts as able to serve every job (R69). -/
def wakeDemand (s : State) (p : PortNo) : Bool :=
  allDests.any (fun d => (s.dest d).enabled && (s.dest d).members.contains p
    && (s.queue d).any (fun n => match s.job? n with
      | some j => (s.port p).caps.isNone || (s.port p).canServe j
      | none => false))

/-- Port `p` has demand (R95). -/
def demand (s : State) (p : PortNo) : Bool :=
  (s.port p).run.isSome || (s.port p).susp.isSome || (s.port p).inc.isSome
    || !(s.port p).pinnedQ.isEmpty || wakeDemand s p

/-- The idle timer of an UP port in AUTO with an empty in-flight list: it runs while there is no demand, from the full
idle time (R95). -/
def runIdleTimer (p : PortNo) (s : State) : State :=
  if demand s p then s.modPort p (fun x => { x with idleTimer := none })
  else s.modPort p (fun x => { x with idleTimer := some (x.idleTimer.getD (s.portCfg p).idle) })

/-- Table 6-3, applied to port `p` (R94, R95). -/
def wakeTable (p : PortNo) (s : State) : State :=
  match (s.port p).link, (s.port p).wakeMode with
  | .down, .forceOn => enterWaking p s
  | .down, .auto => if demand s p then enterWaking p s else s
  | .down, .forceOff => s
  | .waking, .forceOff => goDown p s
  | .waking, _ => s
  | .up, m =>
    if (s.port p).inFlight.isEmpty then
      match m with
      | .forceOff => leaveUpDown p s
      | .forceOn => s.modPort p (fun x => { x with idleTimer := none })
      | .auto => runIdleTimer p s
    else
      match m with
      | .forceOff => s.modPort p (fun x => { x with idleTimer := none, forceOff := true })
      | _ => s.modPort p (fun x => { x with idleTimer := none })
  | .recovering, .forceOff => goDown p s
  | .recovering, _ => s
  | .offline, .forceOff => goDown p s
  | .offline, _ => s

/-- A busy flag is cleared once the port is not usable or its run slot holds no RUNNING job (R105). -/
def checkBusy (p : PortNo) (s : State) : State := if s.busyNow p then s else clearBusy p s

/-- The wake table, the busy flag and the lamps of one port (R94, R105, R154). -/
def settlePort (p : PortNo) (s : State) : State := evalLamps p (checkBusy p (wakeTable p s))

/-- The same for every port, in ascending number (log 6). -/
def settle (s : State) : State := allPorts.foldl (fun s p => settlePort p s) s

/-- What follows a change at port `p` that may have made it usable: if it was not usable before and is now, it pulls
and dispatch resumes (R92). -/
def usableTasks (p : PortNo) (before after : State) : List Task :=
  if !(before.port p).usable && (after.port p).usable then [.pull p, .dispatch p] else []

/-! ### Rewind, stall and recovery -/

/-- How many records on a list are TAKEN (R112, R117). -/
def takenCount (l : List Flight) : Nat := (l.filter (fun f => f.stage == .taken)).length

/-- The charges carried by the records of a list (R109). -/
def chargeSum (l : List Flight) : Nat := (l.map (fun f => f.charge)).sum

/-- The sides carried by the records of a list (R109). -/
def sidesSum (l : List Flight) : Nat := (l.map (fun f => f.sides)).sum

/-- The job side of a rewind: the reservation is released, the cursor goes back to the delivered count, a RUNNING or
STARVED job is tested (R109, R142). -/
def rewindJob (j : Job) (list : List Flight) (s : State) : State :=
  let s := release j.account (chargeSum list) (sidesSum list) s
  let s := s.modJob j.num (fun j => { j with cursor := j.delivered, inFlight := 0 })
  starvedTest j.num .fault s

/-- A rewind of port `p`: the list is emptied in one act and the watchdog stops (R109). The caller's tasks go on with
the end of a drain or cancel. -/
def rewind (p : PortNo) (s : State) : State :=
  let list := (s.port p).inFlight
  let job := s.runJob p
  let s := refreshWindow p (s.modPort p (fun x => { x with inFlight := [], transfer := [], watchdog := none }))
  match job with
  | some j => rewindJob j list s
  | none => s

/-- Doubtful sheets are counted against the job, the port and the account's period (R117 step 1). -/
def countDoubtful (p : PortNo) (d : Nat) (s : State) : State :=
  let s := s.modPort p (fun x => { x with meters := { x.meters with doubtful := satAdd max32 x.meters.doubtful d } })
  match s.runJob p with
  | none => s
  | some j =>
    let s := s.modJob j.num (fun j => { j with doubtful := satAdd max32 j.doubtful d })
    let a := s.account j.account
    s.setAccount j.account { a with periodDoubtful := satAdd max32 a.periodDoubtful d }

/-- Spoiled sheets are counted against the job, the port and the account's period (R112 step 2). -/
def countSpoiled (p : PortNo) (d : Nat) (s : State) : State :=
  let s := s.modPort p (fun x => { x with meters := { x.meters with spoiled := satAdd max32 x.meters.spoiled d } })
  match s.runJob p with
  | none => s
  | some j =>
    let s := s.modJob j.num (fun j => { j with spoiled := satAdd max32 j.spoiled d })
    let a := s.account j.account
    s.setAccount j.account { a with periodWaste := satAdd max32 a.periodWaste d }

/-- The details of STALL (R111, Table 10-1). -/
def stallTimeout : Nat := 0

def stallSequence : Nat := 1

/-- A stall (R117): the doubtful sheets are counted and the list is rewound. The link counts as not UP from here on,
so that nothing is dispatched in the act (R109, log 22). -/
def stall (p : PortNo) (detail : Nat) (s : State) : State × List Task :=
  let s := rewind p (countDoubtful p (takenCount (s.port p).inFlight) s)
  (setLink p .recovering s, [.runEnd p .rewind, .stallTail p detail, .settle])

/-- Steps 3 and 4 of a stall: STALL comes on, the link has left UP and the first recovery attempt begins; under
FORCE_OFF the link goes on to DOWN and no attempt is made (R117, R94). -/
def stallTail (p : PortNo) (detail : Nat) (s : State) : State :=
  let s := clearUp p (condOn p .stall (some detail) s)
  if (s.port p).wakeMode = .forceOff then goDown p s else beginAttempt p 1 s

/-- A link comes UP at a HELLO (R89). -/
def comeUp (p : PortNo) (caps : Caps) (window : Nat) (s : State) : State :=
  let s := s.modPort p (fun x => { x with
    caps := some caps, maxWindow := some window, wakeTimer := none, hailTimer := false, attempt := none })
  let s := startRateWindow p (refreshWindow p (setLink p .up s))
  condOff p .wakeFail (condOff p .linkLost (condOff p .stall s))

end Sys2Proof.Machine
end

