-- ==== Sys2Proof/Machine/Act.lean ====
section
/-! DEFINITION. One act: the tasks that follow from an event, the notices they hand over, and the transmitter (R7, R8, R9, R33, R93). -/

namespace Sys2Proof.Machine

/-! ### Tasks -/

/-- One task, and the tasks it brings about. -/
def runTask (t : Task) (s : State) : State × List Task :=
  match t with
  | .pull p => pull p s
  | .dispatch p => dispatch p s
  | .offer n => offerJob n s
  | .runEnd p cause => runEnd p cause s
  | .creditClear n => creditClear n s
  | .jamOn p location => (condOn p .jam (some location) s, [])
  | .stallTail p detail => (stallTail p detail s, [])
  | .settle => (settle s, [])
  | .note k contents => (s.note k contents, [])

/-- The tasks are run first to last; what a task brings about is run before the tasks behind it (log 8). -/
def runTasks : (fuel : Nat) → List Task → State → State
  | 0, _, s => s
  | _ + 1, [], s => s
  | fuel + 1, t :: ts, s => runTasks fuel ((runTask t s).2 ++ ts) (runTask t s).1

/-- How much a job standing in a slot or queue may still bring about in an act (log 16). -/
def slotWeight (s : State) (p : PortNo) : Nat :=
  (match (s.port p).run with
    | none => 0
    | some n => match s.job? n with
      | none => 1
      | some j =>
        if j.state = .draining ∧ j.holds.isEmpty then
          if j.purpose = some .suspendInsert ∨ j.purpose = some .suspendHost then 4 else 60
        else 1)
    + (if (s.port p).susp.isSome then 3 else 0) + (if (s.port p).inc.isSome then 3 else 0)
    + 55 * (s.port p).pinnedQ.length

/-- How much a task may bring about in an act (log 16). -/
def Task.weight : Task → Nat
  | .dispatch _ => 2
  | .creditClear _ => 1100
  | _ => 1

/-- More steps than the tasks can take: every task run lowers the weight of what remains (log 16). -/
def cascadeFuel (ts : List Task) (s : State) : Nat :=
  (ts.map Task.weight).sum + (allPorts.map (slotWeight s)).sum
    + (allDests.map (fun d => 55 * (s.queue d).length)).sum + 1

/-- Everything that follows from an event in the same act. -/
def cascade (ts : List Task) (s : State) : State := runTasks (cascadeFuel ts s) ts s

/-! ### The notice queue -/

/-- The notice queue holds at most 32 notices (R8). -/
def noticeCapacity : Nat := 32

/-- A notice joins the queue; in a full queue the oldest is removed and the overrun indication is set (R8). -/
def pushNotice (n : Notice) (s : State) : State :=
  if s.mlc.notices.length < noticeCapacity then
    { s with mlc := { s.mlc with notices := s.mlc.notices ++ [n] } }
  else { s with mlc := { s.mlc with notices := s.mlc.notices.drop 1 ++ [n], overrun := true } }

/-- A JOB_EVENT: the job's state at the end of the act, and the reason of its first change (R33). -/
def jobEvent (s : State) (n : Nat) (reason : JobReason) : Option Notice :=
  (s.job? n).map (fun j => { kind := 0x70, contents := be16 n ++ be8 j.state.code ++ be8 reason.code })

/-- A PORT_EVENT with the values held at the end of the act (R93). -/
def portEvent (s : State) (p : PortNo) : Notice :=
  let x := s.port p
  { kind := 0x72, contents := be8 p.val ++ be8 x.link.code ++ be8 x.conditionByte ++ [x.mediaEmpty] }

/-- The notice a note of the act becomes, unless it is a PORT_EVENT. -/
def otherNotice (s : State) : Note → Option Notice
  | .job n reason => jobEvent s n reason
  | .port _ => none
  | .notice x => some x

/-- The PORT_EVENT a note of the act becomes. -/
def portNotice (s : State) : Note → Option Notice
  | .port p => some (portEvent s p)
  | _ => none

/-- The notices of the act, PORT_EVENTs ahead of every other (R93), the "present" notice of a panel that answers with an
action not excepted, which R163 sends before the action's notices (log 32). -/
def actNotices (s : State) : List Notice :=
  s.notes.filterMap (portNotice s) ++ s.notes.filterMap (otherNotice s)

/-- The act ends: its notices join the notice queue. -/
def flushNotes (s : State) : State :=
  (actNotices s).foldl (fun s n => pushNotice n s) { s with notes := [] }

/-! ### The transmitter -/

/-- A notice frame, composed as the notice starts transmission (R9). -/
def noticeFrame (n : Notice) (overrun : Bool) : Frame :=
  { kind := n.kind, tag := 0, payload := be8 (flagByte [overrun]) ++ n.contents }

/-- The head notice starts transmission: it leaves the queue, and the overrun indication is cleared (R8). -/
def startNotice (n : Notice) (rest : List Notice) (s : State) : State :=
  { s with mlc := { s.mlc with
      notices := rest, overrun := false, tx := .sending (noticeFrame n s.mlc.overrun) false } }

/-- The oldest entry's reply starts transmission (R7). -/
def startReply (e : Entry) (f : Frame) (rest : List Entry) (s : State) : State :=
  { s with mlc := { s.mlc with
      holding := { e with stage := .sending } :: rest, tx := .sending f true } }

/-- The reply of the oldest entry, if that entry is in REPLY_READY (R7). -/
def readyReply (m : Mlc) : Option (Entry × Frame × List Entry) :=
  match m.holding with
  | e :: rest =>
    match e.stage, e.reply with
    | .replyReady, some f => some (e, f, rest)
    | _, _ => none
  | [] => none

/-- An idle transmitter picks the next frame: a notice after a reply, else the oldest reply that is ready, else a
notice (R7). -/
def pickFrame (s : State) : State :=
  match s.mlc.lastReply, s.mlc.notices, readyReply s.mlc with
  | true, n :: rest, _ => startNotice n rest s
  | _, _, some (e, f, rest) => startReply e f rest s
  | _, n :: rest, none => startNotice n rest s
  | _, [], none => s

/-- The transmitter starts a frame if it is idle and one waits (R7). -/
def pump (s : State) : State :=
  match s.mlc.tx with
  | .idle => pickFrame s
  | .sending _ _ => s

/-! ### The act -/

/-- The state after an event with the tasks that follow from it, its notices queued and the transmitter picked. The
transmitter looks once in an act, here at its end, when the reply and every notice of the act have joined (R7, log 31). -/
def closeAct (r : State × List Task) : State := pump (flushNotes (cascade r.2 r.1))

/-- By this moment of the time base some entry in RAISED that has not yet spent the escalation time there has (R156). -/
def State.escalatesBy (s : State) (moment : Nat) : Bool :=
  s.cfg.escalation != 0 && s.au.alerts.toList.any (fun a => a.state == .raised
    && decide (s.base.now < a.escalatesAt s.cfg.escalation) && decide (a.escalatesAt s.cfg.escalation ≤ moment))

/-- The moment of the time base at which the next command comes: a free one (log 10), not beyond the end of the current
second, which is SHOP_CLOCK_TICK, and with no entry reaching the escalation time before it, which is
ESCALATION_REACHED. -/
def State.nextMoment (s : State) : Nat :=
  let moment := max s.base.now (min (s.base.now + Config.elapsed s.base.acts) s.nextIncrement)
  if s.escalatesBy moment then s.base.now else moment

/-- The state as an act begins: some time has passed, and nothing is put on a press link yet. -/
def openAct (s : State) : State :=
  { s with base := { s.base with now := s.nextMoment, acts := s.base.acts + 1 }, pressOut := [] }

/-- One event, taken whole. -/
def act (f : State → State × List Task) (s : State) : State := closeAct (f (openAct s))

/-- The outcome of a meaning: every command of the table has an effect. -/
abbrev Result := Host.Outcome State Fault Refusal

end Sys2Proof.Machine
end

