-- ==== Sys2Proof/Machine/Operands.lean ====
section
/-! DEFINITION. The operand forms of the requests: kinds, payload lengths and payload bytes (Table 1-3 and the payload tables), and the numbers they name. -/

namespace Sys2Proof.Machine

/-- The payload lengths R5 accepts for each request kind; `none` for a kind Table 1-3 does not list. -/
def kindLengths (kind : Nat) : Option (Nat × Nat) :=
  match kind with
  | 0x01 => some (0, 0) | 0x02 => some (0, 0) | 0x03 => some (4, 4) | 0x04 => some (0, 0) | 0x05 => some (1, 1)
  | 0x08 => some (10, 10) | 0x09 => some (3, 1026) | 0x0A => some (7, 7) | 0x0B => some (2, 2) | 0x0C => some (2, 2)
  | 0x0D => some (2, 2) | 0x0E => some (2, 2) | 0x0F => some (2, 2) | 0x10 => some (2, 2) | 0x11 => some (2, 2)
  | 0x12 => some (2, 2) | 0x13 => some (3, 3) | 0x14 => some (2, 2) | 0x18 => some (27, 27) | 0x19 => some (1, 1)
  | 0x1A => some (1, 1) | 0x20 => some (8, 8) | 0x21 => some (2, 2) | 0x22 => some (2, 2) | 0x23 => some (1, 1)
  | 0x24 => some (1, 1) | 0x25 => some (1, 1) | 0x28 => some (6, 6) | 0x29 => some (1, 1) | 0x2A => some (1, 1)
  | 0x2B => some (6, 6) | 0x2C => some (6, 6) | 0x2D => some (1, 1) | 0x2E => some (1, 1) | 0x30 => some (1, 1)
  | 0x31 => some (1, 1) | 0x32 => some (0, 0) | 0x33 => some (2, 2) | 0x34 => some (4, 4) | 0x38 => some (3, 3)
  | 0x39 => some (1, 1) | _ => none

/-- The MLC's own checks of a request being taken, in order: tag, kind, length; the first that fails decides (R5). -/
def mlcCheck (kind tag : Byte) (length : Nat) : Option Status :=
  if tag = 0 then some .badTag
  else match kindLengths kind.toNat with
    | none => some .unknownKind
    | some (lo, hi) => if lo ≤ length ∧ length ≤ hi then none else some .badLength

/-- The port a byte names, 0-15. -/
def portNo? (n : Nat) : Option PortNo := if h : n < 16 then some ⟨n, h⟩ else none

/-- The destination a byte names, 0-31. -/
def destNo? (n : Nat) : Option (Fin 32) := if h : n < 32 then some ⟨n, h⟩ else none

/-- The account a byte names, 0-127. -/
def accountNo? (n : Nat) : Option (Fin 128) := if h : n < 128 then some ⟨n, h⟩ else none

/-- The panel address a byte names, 0-7. -/
def panelNo? (n : Nat) : Option (Fin 8) := if h : n < 8 then some ⟨n, h⟩ else none

/-- The alert entry a number names, 0-112. -/
def entryNo? (n : Nat) : Option EntryNo := if h : n < 113 then some ⟨n, h⟩ else none

/-- A media or size class, 0-7. -/
def class? (n : Nat) : Option (Fin 8) := if h : n < 8 then some ⟨n, h⟩ else none

/-- A colour class or capability: 0 MONO, 1 COLOR. -/
def colour? (n : Nat) : Option Colour :=
  match n with
  | 0 => some .mono
  | 1 => some .color
  | _ => none

/-- A flag byte that must be 0 or 1. -/
def flag? (n : Nat) : Option Bool :=
  match n with
  | 0 => some false
  | 1 => some true
  | _ => none

/-- A wake mode: 0 AUTO, 1 FORCE_ON, 2 FORCE_OFF (R97). -/
def wakeMode? (n : Nat) : Option WakeMode :=
  match n with
  | 0 => some .auto
  | 1 => some .forceOn
  | 2 => some .forceOff
  | _ => none

/-- A lamp value: 0 OFF, 1 STEADY, 2 FLASH (R155). -/
def lamp? (n : Nat) : Option Lamp :=
  match n with
  | 0 => some .off
  | 1 => some .steady
  | 2 => some .flash
  | _ => none

/-- A rights level (Table 11-1). -/
def rights? (n : Nat) : Option Rights :=
  match n with
  | 0 => some .view
  | 1 => some .ack
  | 2 => some .floor
  | 3 => some .full
  | _ => none

/-- The member list of ROUTE_SET: `count` ports first, distinct, and 255 in every place after them (Table 4-2, R56
check 3). -/
def members? (count : Nat) (bytes : List Byte) : Option (List PortNo) :=
  if 8 < count then none
  else
    let listed := (bytes.take count).map (fun b => portNo? b.toNat)
    if listed.any Option.isNone || (bytes.drop count).any (fun b => b != 255) then none
    else
      let ports := listed.filterMap id
      if ports.Nodup then some ports else none

/-- A printable character, 0x20-0x7E. -/
def printable (b : Byte) : Bool := decide (0x20 ≤ b.toNat) && decide (b.toNat ≤ 0x7E)

/-- The label of ROUTE_SET: printable characters before the first 0 byte, and only 0 bytes after it (Table 4-2, R56
check 4). -/
def label? (bytes : List Byte) : Option (List Byte) :=
  let text := bytes.takeWhile (fun b => b != 0)
  if text.all printable && (bytes.drop text.length).all (fun b => b == 0) then some text else none

/-- A label as messages carry it: sixteen bytes padded with 0 (R59, R160). -/
def padLabel (label : List Byte) : List Byte := label ++ List.replicate (16 - label.length) 0

/-- A 16-bit operand as its two bytes. -/
def halfBytes (x : Half) : List Byte := be16 x.toNat

/-- A 32-bit operand as its four bytes. -/
def wordBytes (x : Word) : List Byte := be32 x.toNat

end Sys2Proof.Machine
end

