-- ==== Sys2Proof/Machine/Requests.lean ====
section
/-! DEFINITION. How a request is admitted, taken and answered: R3 to R6, R57. -/

namespace Sys2Proof.Machine

/-- An accepted request: the reply contents after the status byte, the state, and what follows in the same act. -/
structure Accepted where
  contents : List Byte := []
  st : State
  tasks : List Task := []

/-- What a block answers to a request: a status other than OK, with no change of state (R5), or acceptance. -/
abbrev Answer := Except Status Accepted

/-- A request's owning block. It is given the route mask that the request found (R57). -/
abbrev Handler := Option RouteMask → State → Answer

/-- The reply frame: the request's kind with its top bit set, its tag, the status code, the contents (R6). -/
def replyFrame (request : Frame) (status : Status) (contents : List Byte) : Frame :=
  { kind := request.kind ||| 0x80, tag := request.tag, payload := be8 status.code ++ contents }

/-- The request's entry joins the tail of the holding area, its reply composed (R4, R5). -/
def answer (request : Frame) (status : Status) (contents : List Byte) (s : State) : State :=
  { s with mlc := { s.mlc with holding := s.mlc.holding ++
      [{ request := request, stage := .replyReady, reply := some (replyFrame request status contents) }] } }

/-- The route mask becomes absent at every request taken (R57). -/
def consumeMask (s : State) : State := { s with dt := { s.dt with routeMask := none } }

/-- A request is taken: the mask is consumed, the MLC checks it, its block acts on it, its reply is composed (R5, R6,
R57). -/
def takeRequest (request : Frame) (h : Handler) (s : State) : State × List Task :=
  let mask := s.dt.routeMask
  let s := consumeMask s
  match mlcCheck request.kind request.tag request.payload.length with
  | some bad => (answer request bad [] s, [])
  | none =>
    match h mask s with
    | .error code => (answer request code [] s, [])
    | .ok r => (answer request .ok r.contents r.st, r.tasks)

/-- The holding area holds at most 4 requests (R4). -/
def holdingCapacity : Nat := 4

/-- A frame from the host is discarded and counted (R2, R3). -/
def countDiscard (s : State) : State :=
  { s with mlc := { s.mlc with discarded := satAdd max16 s.mlc.discarded 1 } }

/-- A request that is admitted while a RESTART waits stays in stage ADMITTED (R10). -/
def admitOnly (request : Frame) (s : State) : State :=
  { s with mlc := { s.mlc with holding := s.mlc.holding ++ [{ request := request, stage := .admitted }] } }

/-- A complete frame from the host is presented for admission (R3). Admitted, it is taken at once unless a RESTART
has been taken (R5, R10). -/
def present (request : Frame) (h : Handler) (s : State) : State × List Task :=
  if holdingCapacity ≤ s.mlc.holding.length then (countDiscard s, [])
  else if s.mlc.restart.isSome then (admitOnly request s, [])
  else takeRequest request h s

/-- A request of this kind, tag and payload arrives in one complete frame. A payload that no frame may carry is
discarded for its length (R2). -/
def hostRequest (kind : Nat) (tag : Byte) (payload : List Byte) (h : Handler) (s : State) : State :=
  if maxPayload < payload.length then act (fun s => (countDiscard s, [])) s
  else act (present { kind := BitVec.ofNat 8 kind, tag := tag, payload := payload } h) s

/-- A change of a Table 12-1 setting is refused while a save is in progress (R169). -/
def unlessSaving (s : State) (k : Answer) : Answer := if s.ss.saving.isSome then .error .saving else k

/-- A request that names a job number that no record holds is answered NO_JOB (R32). -/
def withJob (s : State) (n : Nat) (k : Job → Answer) : Answer :=
  match s.job? n with
  | none => .error .noJob
  | some j => k j

/-- A field that must name something in its range is answered BAD_FIELD when it does not. -/
def field {α : Type} (x : Option α) (k : α → Answer) : Answer :=
  match x with
  | none => .error .badField
  | some a => k a

/-- A request accepted with no further reply contents. -/
def accept (s : State) (tasks : List Task := []) : Answer := .ok { st := s, tasks := tasks }

/-- A request that changes nothing and reports these contents. -/
def report (s : State) (contents : List Byte) : Answer := .ok { contents := contents, st := s }

end Sys2Proof.Machine
end

