-- ==== Sys2Proof/Machine/AlertRequests.lean ====
section
/-! DEFINITION. The alert, lamp and horn requests (sections 10.4 to 10.6) and the end of an entry's escalation time. -/

namespace Sys2Proof.Machine

/-! ### Queries -/

/-- An entry report (R153). -/
def State.entryReport (s : State) (e : EntryNo) : List Byte :=
  let a := s.alert e
  be8 e.val ++ be8 a.state.code ++ be8 (flagByte [a.on, a.detail.isSome, a.ackedBy.isSome]) ++ be32 a.raiseTime
    ++ be8 a.raiseCount ++ be32 (a.detail.getD 0) ++ be8 (ackedByCode a.ackedBy)

/-- The entries of port `p` in kind order (R146). -/
def portEntries (p : PortNo) : List EntryNo :=
  [AlertKind.jam, .stall, .linkLost, .wakeFail, .mediaOut, .slow, .door].map (entryNo p)

/-- Three lamp values as bytes (R153). -/
def Lamps.report (l : Lamps) : List Byte := be8 l.red.code ++ be8 l.amber.code ++ be8 l.green.code

/-- The report of port `p` (R153). -/
def State.lampReport (s : State) (p : PortNo) : List Byte :=
  be8 p.val ++ be8 (bit (s.portCfg p).lampHost) ++ (s.port p).lamps.report ++ (portEntries p).flatMap s.entryReport

/-- The report of the horn and the announcement list (R153). -/
def State.hornReport (s : State) : List Byte :=
  be8 (bit s.au.horn) ++ be8 (bit s.au.silenced) ++ be8 s.cfg.escalation ++ be8 s.au.announced.length
    ++ s.au.announced.flatMap (fun e => be8 e.val)

/-- ALERT_QUERY (R153). -/
def doAlertQuery (selector : Nat) (s : State) : Answer :=
  if selector = 255 then report s s.hornReport
  else if selector < 128 then field (entryNo? selector) fun e => report s (s.entryReport e)
  else field (portNo? (selector - 128)) fun p => report s (s.lampReport p)

/-! ### Acknowledgement and silence -/

/-- One entry is acknowledged by the host or a panel (R152). -/
def doAckOne (by_ : AckBy) (e : EntryNo) (s : State) : Answer :=
  if (s.alert e).ackable then
    .ok { contents := be8 ((alertAck e by_ s).alert e).state.code, st := alertAck e by_ s }
  else .error .already

/-- Every announced entry is acknowledged by the host, head to tail (R152). -/
def ackAll (s : State) : State := s.au.announced.foldl (fun s e => alertAck e .host s) s

/-- ALERT_ACK (R152). -/
def doAlertAck (entry : Nat) (s : State) : Answer :=
  if entry = 255 then
    if s.au.announced.isEmpty then .error .already
    else .ok { contents := be8 s.au.announced.length, st := ackAll s }
  else field (entryNo? entry) fun e => doAckOne .host e s

/-- HORN_SILENCE and the panel SILENCE (R157). -/
def doSilence (s : State) : Answer :=
  if s.au.silenced then .error .already else accept (evalHorn { s with au := { s.au with silenced := true } })

/-! ### Lamps -/

/-- LAMP_MODE (R155). -/
def doLampMode (port mode : Nat) (s : State) : Answer :=
  unlessSaving s <| field (portNo? port) fun p => field (flag? mode) fun host =>
    if (s.portCfg p).lampHost = host then .error .already
    else accept (evalLamps p (s.setPortCfg p { s.portCfg p with lampHost := host }))

/-- LAMP_SET (R155). -/
def doLampSet (port red amber green : Nat) (s : State) : Answer :=
  field (portNo? port) fun p => field (lamp? red) fun r => field (lamp? amber) fun a => field (lamp? green) fun g =>
    if !(s.portCfg p).lampHost then .error .wrongState
    else accept (s.modPort p (fun x => { x with lamps := { red := r, amber := a, green := g } }))

/-! ### Escalation -/

/-- The time entry `e` has spent in RAISED reaches the escalation time: the time base is at that moment, and the horn is
evaluated (R156). A moment beyond the next increment of the shop clock cannot come before that increment (log 10). -/
def escalate (e : EntryNo) (s : State) : State :=
  let a := s.alert e
  let moment := a.escalatesAt s.cfg.escalation
  if a.state = .raised ∧ s.cfg.escalation ≠ 0 ∧ moment ≤ s.nextIncrement then
    evalHorn { s with base := { s.base with now := max s.base.now moment } }
  else s

/-! ### The commands -/

/-- ALERT_QUERY arrives and is taken (R153). -/
def execAlertQuery (tag selector : Byte) (s : State) : Result :=
  .next (hostRequest 0x30 tag [selector] (fun _ => doAlertQuery selector.toNat) s)

/-- ALERT_ACK arrives and is taken (R152). -/
def execAlertAck (tag entry : Byte) (s : State) : Result :=
  .next (hostRequest 0x31 tag [entry] (fun _ => doAlertAck entry.toNat) s)

/-- HORN_SILENCE arrives and is taken (R157). -/
def execHornSilence (tag : Byte) (s : State) : Result := .next (hostRequest 0x32 tag [] (fun _ => doSilence) s)

/-- LAMP_MODE arrives and is taken (R155). -/
def execLampMode (tag port mode : Byte) (s : State) : Result :=
  .next (hostRequest 0x33 tag [port, mode] (fun _ => doLampMode port.toNat mode.toNat) s)

/-- LAMP_SET arrives and is taken (R155). -/
def execLampSet (tag port red amber green : Byte) (s : State) : Result :=
  .next (hostRequest 0x34 tag [port, red, amber, green]
    (fun _ => doLampSet port.toNat red.toNat amber.toNat green.toNat) s)

/-- An entry's time in RAISED reaches the escalation time (R156). -/
def execEscalationReached (entry : Fin 113) (s : State) : Result := .next (act (fun s => (escalate entry s, [])) s)

end Sys2Proof.Machine
end

