-- ==== Sys2Proof/Machine/SpoolRequests.lean ====
section
/-! DEFINITION. SHEET_DATA and SHEET_END (sections 2.4 and 2.5). -/

namespace Sys2Proof.Machine

/-! ### SHEET_DATA -/

/-- The job may take data: data open, and SPOOLING, or early start and not yet finished (R20). -/
def Job.takesData (j : Job) : Bool :=
  !j.dataClosed && (match j.state with
    | .spooling => true
    | .queued | .held | .running | .starved | .draining | .suspended => j.earlyStart
    | .cancelling | .done | .cancelled => false)

/-- The image that data for job `n` goes to: its BUILDING image, or a new record with the next index; `none` when
the job holds 4,096 images or no record is unused (R18, R19, R21). -/
def Smm.dataImage (m : Smm) (n : Nat) : Option Image :=
  match m.building? n with
  | some i => some i
  | none =>
    if maxImages ≤ m.imageCount n then none
    else m.freeRecord.map (fun r => { record := r, job := n, index := m.imageCount n })

/-- Appending `k` bytes to image `i` needs a new block (R22). -/
def Image.needsBlock (i : Image) (k : Nat) : Bool := decide (blockSize * i.chain.length < i.length + k)

/-- A job of this class may not be given a block now (R22). -/
def State.blockRefused (s : State) (rush : Bool) : Bool :=
  if rush then s.smm.free.isEmpty else decide (s.smm.free.length ≤ s.cfg.rushReserve)

/-- Image `i` with the block taken for it, if one is needed (R17, R23). -/
def Smm.grow (m : Smm) (i : Image) (needs : Bool) : Image :=
  if needs then { i with chain := i.chain ++ m.free.take 1 } else i

/-- The bytes are appended to image `i`, which joins the table when it is new (R18, R23). -/
def Smm.appendData (m : Smm) (i : Image) (isNew needs : Bool) (data : List Byte) : Smm :=
  let g := m.grow i needs
  let whole := { g with length := i.length + data.length }
  { m with
    free := m.free.drop (bit needs)
    images := if isNew then insertImage whole m.images else updateImage i.record (fun _ => whole) m.images
    spool := storeBytes g.chain i.length data m.spool }

/-- An accepted SHEET_DATA, in one act (R23, R30). -/
def storeData (i : Image) (isNew : Bool) (data : List Byte) (s : State) : State :=
  let needs := i.needsBlock data.length
  let t := { s with smm := s.smm.appendData i isNew needs data }
  if needs then evalSpoolLow t else t

/-- SHEET_DATA (R20 to R23). -/
def doSheetData (n : Nat) (data : List Byte) (s : State) : Answer :=
  withJob s n fun j =>
    if !j.takesData then .error .wrongState
    else match s.smm.dataImage n with
      | none => .error .imageTableFull
      | some i =>
        if maxImageLength < i.length + data.length then .error .imageTooLarge
        else if i.needsBlock data.length && s.blockRefused j.rush then .error .spoolFull
        else .ok { contents := be16 i.index ++ be32 (i.length + data.length)
                   st := storeData i (s.smm.building? n).isNone data s }

/-! ### SHEET_END -/

/-- The sides and the side-2 offset that SHEET_END declares for an image (R24, checks 4 to 7). -/
def sidesFit (j : Job) (i : Image) (sides offset : Nat) : Bool :=
  if sides = 1 then offset == 0
  else sides == 2 && j.duplex && offset != 0 && decide (offset < i.length)

/-- The image becomes COMPLETE (R25). -/
def completeImage (i : Image) (sides offset : Nat) (s : State) : State :=
  { s with smm := { s.smm with images := updateImage i.record (fun x => { x with
      complete := true, sides := some sides, offset := if sides = 2 then some offset else none }) s.smm.images } }

/-- What follows in the Job Table when the limit of job `n` has risen with data: STARVED is tested, and the port of a
run job tests whether it dispatches (R41, R101). -/
def limitRaised (n : Nat) (s : State) : State × List Task :=
  let t := starvedTest n .data s
  (t, match t.runPort n with
    | some p => [.dispatch p]
    | none => [])

/-- The Job Table counts one more complete image of job `j` and acts on it (R25, R36, R41). -/
def imageCompleted (j : Job) (s : State) : State × List Task :=
  let s := s.modJob j.num (fun j => { j with complete := j.complete + 1 })
  if j.state = .spooling then (if j.earlyStart then leaveSpooling j s else (s, []))
  else limitRaised j.num s

/-- SHEET_END (R24, R25). -/
def doSheetEnd (n sides offset : Nat) (s : State) : Answer :=
  withJob s n fun j =>
    if !j.takesData then .error .wrongState
    else match s.smm.building? n with
      | none => .error .noImage
      | some i =>
        if !sidesFit j i sides offset then .error .badField
        else
          let r := imageCompleted j (completeImage i sides offset s)
          .ok { contents := be16 i.index ++ be16 (j.complete + 1), st := r.1, tasks := r.2 ++ [.settle] }

/-! ### The commands -/

/-- SHEET_DATA arrives and is taken (R20 to R23). -/
def execSheetData (tag : Byte) (job : Half) (data : List Byte) (s : State) : Result :=
  .next (hostRequest 0x09 tag (halfBytes job ++ data) (fun _ => doSheetData job.toNat data) s)

/-- SHEET_END arrives and is taken (R24, R25). -/
def execSheetEnd (tag : Byte) (job : Half) (sides : Byte) (offset : Word) (s : State) : Result :=
  .next (hostRequest 0x0A tag (halfBytes job ++ [sides] ++ wordBytes offset)
    (fun _ => doSheetEnd job.toNat sides.toNat offset.toNat) s)

end Sys2Proof.Machine
end

