-- ==== Sys2Proof/Machine/JobRequests.lean ====
section
/-! DEFINITION. The job requests of chapters 3 and 5, and the steps the panel job actions share with them. -/

namespace Sys2Proof.Machine

/-! ### JOB_OPEN -/

/-- The free record with the lowest number; with none free, the record at the head of the finished list is reclaimed
first (R35, R51). -/
def takeRecord (s : State) : Option (State × Nat) :=
  match s.jt.freeRecord with
  | some r => some (s, r)
  | none =>
    match s.jt.finished with
    | [] => none
    | n :: _ => ((freeRecord n s).jt.freeRecord).map (fun r => (freeRecord n s, r))

/-- The next job number to issue (R32). -/
def State.nextJobNumber (s : State) : Nat :=
  issueNumber (fun n => s.jt.jobs.any (fun j => j.num == n)) 256 s.jt.lastNum

/-- Job `j` is created (R35). -/
def addJob (j : Job) (s : State) : State :=
  { s with jt := { s.jt with jobs := insertJob j s.jt.jobs, lastNum := j.num } }

/-- The record of a job just opened; a priority above 7 is recorded as 7 (R34, R35). -/
def newJob (record num : Nat) (a : Fin 128) (d : Fin 32) (rush : Bool) (priority copies options : Nat) (c : Colour)
    (m z : Fin 8) (clock : Nat) : Job :=
  { record := record, num := num, account := a, dest := d, rush := rush, priority := min 7 priority
    copies := copies, collate := bitOf options 0, earlyStart := bitOf options 1, duplex := bitOf options 2
    colour := c, media := m, size := z, opened := clock }

/-- JOB_OPEN (R34, R35). -/
def doJobOpen (account dest cls priority copies options colour media size : Nat) (s : State) : Answer :=
  field (accountNo? account) fun a => field (destNo? dest) fun d => field (flag? cls) fun rush =>
  field (colour? colour) fun c => field (class? media) fun m => field (class? size) fun z =>
    if copies = 0 ∨ 999 < copies ∨ 8 ≤ options then .error .badField
    else if !(s.account a).isOpen then .error .noAccount
    else if !(s.dest d).enabled then .error .destDisabled
    else match takeRecord s with
      | none => .error .jobTableFull
      | some (t, r) =>
        .ok { contents := be16 t.nextJobNumber
              st := addJob (newJob r t.nextJobNumber a d rush priority copies options c m z t.clock) t }

/-! ### JOB_CLOSE -/

/-- Job `j` once its data is closed (R37). -/
def Job.closed (j : Job) : Job := { j with dataClosed := true, total := some (j.copies * j.complete) }

/-- What follows when the data of job `j` has been closed, in the order of precedence of R37. -/
def dataClosed (j : Job) (s : State) : State × List Task :=
  if j.delivered = j.copies * j.complete then finishJob j .done .data s
  else match j.state with
    | .spooling => leaveSpooling j s
    | .running | .starved => limitRaised j.num s
    | .queued | .held | .draining | .suspended | .cancelling | .done | .cancelled => (s, [])

/-- JOB_CLOSE (R37). -/
def doJobClose (n : Nat) (s : State) : Answer :=
  withJob s n fun j =>
    if j.state.ending then .error .wrongState
    else if j.dataClosed then .error .already
    else if (s.smm.building? n).isSome then .error .imageOpen
    else if j.complete = 0 then .error .emptyJob
    else
      let r := dataClosed j.closed (s.modJob n Job.closed)
      .ok { contents := be32 (j.copies * j.complete), st := r.1, tasks := r.2 ++ [.settle] }

/-! ### Queries -/

/-- The OK contents of JOB_QUERY (Table 3-5). -/
def Job.report (j : Job) : List Byte :=
  be16 j.num ++ be8 j.account.val ++ be8 j.dest.val ++ be8 (bit j.rush) ++ be8 j.priority ++ be16 j.copies
    ++ be8 j.options ++ be8 j.colour.code ++ be8 j.media.val ++ be8 j.size.val ++ be8 j.state.code ++ be8 j.presence
    ++ be8 j.holds.byte ++ be8 ((j.purpose.map Purpose.code).getD 255) ++ be8 ((j.bound.map (fun p => p.val)).getD 255)
    ++ be16 j.complete ++ be32 (j.total.getD 0) ++ be32 j.limit ++ be32 j.cursor ++ be32 j.delivered
    ++ be8 j.inFlight ++ be32 j.spoiled ++ be32 j.doubtful ++ be32 j.impressions ++ be48 j.charged ++ be32 j.opened
    ++ be32 (j.firstDispatch.getD 0) ++ be32 (j.finished.getD 0) ++ be32 (j.queueEntry.getD 0)

/-- JOB_QUERY (R53). -/
def doJobQuery (n : Nat) (s : State) : Answer := withJob s n fun j => report s j.report

/-- A count in two bytes and the job numbers of a collection in its order (R54). -/
def jobNumbers (l : List Nat) : List Byte := be16 l.length ++ l.flatMap be16

/-- JOB_LIST (R54). -/
def doJobList (selector number : Nat) (s : State) : Answer :=
  match selector with
  | 0 => field (destNo? number) fun d => report s (jobNumbers (s.queue d))
  | 1 => field (portNo? number) fun p => report s (jobNumbers (s.port p).pinnedQ)
  | 2 => if number = 0 then report s (jobNumbers s.jt.finished) else .error .badField
  | _ => .error .badField

/-! ### Hold, release, cancel -/

/-- Who asks for a job action: the host or a panel. -/
inductive Who where
  | host | panel
  deriving DecidableEq, Repr

/-- The reason of the JOB_EVENT (Table 3-4). -/
def Who.reason : Who → JobReason
  | .host => .host
  | .panel => .panel

/-- The set holds the asker's own reason (R44). -/
def Holds.has (h : Holds) : Who → Bool
  | .host => h.host
  | .panel => h.panel

/-- The asker's reason joins the set (R44). -/
def Holds.add (h : Holds) : Who → Holds
  | .host => { h with host := true }
  | .panel => { h with panel := true }

/-- The set holds a reason that a release by the asker removes (R45). -/
def Holds.releasable (h : Holds) : Who → Bool
  | .host => h.host || h.panel
  | .panel => h.panel

/-- The reasons that a release by the asker removes are gone: HOST and PANEL for the host, PANEL for a panel (R45). -/
def Holds.release (h : Holds) : Who → Holds
  | .host => { h with host := false, panel := false }
  | .panel => { h with panel := false }

/-- What the state of job `j` decides once a hold reason has been added (R44). -/
def holdEffect (w : Who) (j : Job) (s : State) : State × List Task :=
  match j.state with
  | .queued => (setJobState j.num .held w.reason (leaveQueue j s), [])
  | .running | .starved =>
    match s.runPort j.num with
    | some p => beginDrain p j.num .hold w.reason s
    | none => (s, [])
  | .suspended =>
    let pin := (s.suspPort j.num).isSome
    let r := leaveSlot j s
    (setJobState j.num .held w.reason (r.1.modJob j.num (fun j => { j with pinned := j.pinned || pin })), r.2)
  | .spooling | .held | .draining | .cancelling | .done | .cancelled => (s, [])

/-- JOB_HOLD and the panel HOLD (R44). -/
def doHold (w : Who) (n : Nat) (s : State) : Answer :=
  withJob s n fun j =>
    if j.state.ending then .error .wrongState
    else if j.holds.has w then .error .already
    else
      let r := holdEffect w j (s.modJob n (fun j => { j with holds := j.holds.add w }))
      accept r.1 (r.2 ++ [.settle])

/-- JOB_RELEASE and the panel RELEASE (R45). -/
def doRelease (w : Who) (n : Nat) (s : State) : Answer :=
  withJob s n fun j =>
    if j.state.ending then .error .wrongState
    else if !j.holds.releasable w then .error .already
    else
      let t := s.modJob n (fun j => { j with holds := j.holds.release w })
      if j.state = .held ∧ (j.holds.release w).isEmpty then
        let r := joinQueue n w.reason t
        accept r.1 (r.2 ++ [.settle])
      else accept t

/-- What a cancel does to job `j` (R48): CANCELLING in a run slot, CANCELLED elsewhere. -/
def cancelEffect (w : Who) (j : Job) (s : State) : State × List Task :=
  match j.state with
  | .running | .starved | .draining =>
    let t := setJobState j.num .cancelling w.reason (s.modJob j.num (fun j => { j with purpose := none }))
    (t, match t.runPort j.num with
      | some p => [.runEnd p .start]
      | none => [])
  | .spooling | .queued | .held | .suspended | .cancelling | .done | .cancelled =>
    finishJob j .cancelled w.reason s

/-- JOB_CANCEL and the panel CANCEL (R48). -/
def doCancel (w : Who) (n : Nat) (s : State) : Answer :=
  withJob s n fun j =>
    if j.state.ending then .error .already
    else
      let r := cancelEffect w j s
      accept r.1 (r.2 ++ [.settle])

/-! ### Suspend and resume -/

/-- JOB_SUSPEND and the panel SUSPEND (R78). -/
def doSuspend (w : Who) (n : Nat) (s : State) : Answer :=
  withJob s n fun j =>
    if j.state ≠ .running ∧ j.state ≠ .starved then .error .wrongState
    else match s.runPort n with
      | none => .error .wrongState
      | some p =>
        if (s.port p).susp.isSome then .error .depth
        else
          let r := beginDrain p n .suspendHost w.reason s
          accept r.1 (r.2 ++ [.settle])

/-- The reason of the change of state that a resume brings about at once: PORT for the host (R81), PANEL for a panel
(R80, R163; log 25). -/
def Who.resumeReason : Who → JobReason
  | .host => .port
  | .panel => .panel

/-- The suspended job of port `p` gains the reason RETURN; with an empty run slot it returns at once (R80). -/
def resumeAt (w : Who) (p : PortNo) (n : Nat) (s : State) : State :=
  let t := s.modPort p (fun x => { x with susp := some { job := n, reason := .ret } })
  if (s.port p).run.isNone && (s.port p).inc.isNone then t.noteJob n w.resumeReason else t

/-- JOB_RESUME and the panel RESUME (R80). -/
def doResume (w : Who) (n : Nat) (s : State) : Answer :=
  withJob s n fun _ =>
    match s.suspPort n with
    | none => .error .wrongState
    | some p =>
      match (s.port p).susp with
      | some x => if x.reason = .host then accept (resumeAt w p n s) [.pull p, .settle] else .error .already
      | none => .error .wrongState

/-! ### Move and forget -/

/-- JOB_MOVE applies to job `j` now (R50, check 4). -/
def movable (s : State) (j : Job) : Bool :=
  match j.state with
  | .queued | .held | .suspended => true
  | .running | .starved =>
    match s.runPort j.num with
    | some p => (s.port p).inFlight.isEmpty && !(s.port p).usable
    | none => false
  | .spooling | .draining | .cancelling | .done | .cancelled => false

/-- Job `j` is unpinned, its destination becomes `d`, and it is put in place there (R50). -/
def moveJob (j : Job) (d : Fin 32) (s : State) : State × List Task :=
  let r := detach j s
  let t := r.1.modJob j.num (fun j => { j with pinned := false, dest := d })
  if j.state = .held then (t, r.2)
  else
    let q := joinQueue j.num .host t
    (q.1, r.2 ++ q.2)

/-- JOB_MOVE (R50). -/
def doJobMove (n dest : Nat) (s : State) : Answer :=
  field (destNo? dest) fun d => withJob s n fun j =>
    if !(s.dest d).enabled then .error .destDisabled
    else if !movable s j then .error .wrongState
    else
      let r := moveJob j d s
      accept r.1 (r.2 ++ [.settle])

/-- JOB_FORGET (R52). -/
def doJobForget (n : Nat) (s : State) : Answer :=
  withJob s n fun j => if j.state = .done ∨ j.state = .cancelled then accept (freeRecord n s) else .error .wrongState

/-! ### The commands -/

/-- JOB_OPEN arrives and is taken (R34, R35). -/
def execJobOpen (tag account dest cls priority : Byte) (copies : Half) (options colour media size : Byte)
    (s : State) : Result :=
  .next (hostRequest 0x08 tag
    ([account, dest, cls, priority] ++ halfBytes copies ++ [options, colour, media, size])
    (fun _ => doJobOpen account.toNat dest.toNat cls.toNat priority.toNat copies.toNat options.toNat colour.toNat
      media.toNat size.toNat) s)

/-- JOB_CLOSE arrives and is taken (R37). -/
def execJobClose (tag : Byte) (job : Half) (s : State) : Result :=
  .next (hostRequest 0x0B tag (halfBytes job) (fun _ => doJobClose job.toNat) s)

/-- JOB_QUERY arrives and is taken (R53). -/
def execJobQuery (tag : Byte) (job : Half) (s : State) : Result :=
  .next (hostRequest 0x0C tag (halfBytes job) (fun _ => doJobQuery job.toNat) s)

/-- JOB_LIST arrives and is taken (R54). -/
def execJobList (tag selector number : Byte) (s : State) : Result :=
  .next (hostRequest 0x0D tag [selector, number] (fun _ => doJobList selector.toNat number.toNat) s)

/-- JOB_HOLD arrives and is taken (R44). -/
def execJobHold (tag : Byte) (job : Half) (s : State) : Result :=
  .next (hostRequest 0x0E tag (halfBytes job) (fun _ => doHold .host job.toNat) s)

/-- JOB_RELEASE arrives and is taken (R45). -/
def execJobRelease (tag : Byte) (job : Half) (s : State) : Result :=
  .next (hostRequest 0x0F tag (halfBytes job) (fun _ => doRelease .host job.toNat) s)

/-- JOB_CANCEL arrives and is taken (R48). -/
def execJobCancel (tag : Byte) (job : Half) (s : State) : Result :=
  .next (hostRequest 0x10 tag (halfBytes job) (fun _ => doCancel .host job.toNat) s)

/-- JOB_SUSPEND arrives and is taken (R78). -/
def execJobSuspend (tag : Byte) (job : Half) (s : State) : Result :=
  .next (hostRequest 0x11 tag (halfBytes job) (fun _ => doSuspend .host job.toNat) s)

/-- JOB_RESUME arrives and is taken (R80). -/
def execJobResume (tag : Byte) (job : Half) (s : State) : Result :=
  .next (hostRequest 0x12 tag (halfBytes job) (fun _ => doResume .host job.toNat) s)

/-- JOB_MOVE arrives and is taken (R50). -/
def execJobMove (tag : Byte) (job : Half) (dest : Byte) (s : State) : Result :=
  .next (hostRequest 0x13 tag (halfBytes job ++ [dest]) (fun _ => doJobMove job.toNat dest.toNat) s)

/-- JOB_FORGET arrives and is taken (R52). -/
def execJobForget (tag : Byte) (job : Half) (s : State) : Result :=
  .next (hostRequest 0x14 tag (halfBytes job) (fun _ => doJobForget job.toNat) s)

end Sys2Proof.Machine
end

