-- ==== Sys2Proof/Machine/PanelRequests.lean ====
section
/-! DEFINITION. PANEL_SET and PANEL_QUERY (section 11.4), and the PANEL_EVENT. -/

namespace Sys2Proof.Machine

/-- The contents of a PANEL_EVENT: address, event, action code, argument, result (R163). -/
def panelEvent (a : Fin 8) (event code argument result : Nat) : List Byte :=
  be8 a.val ++ be8 event ++ be8 code ++ be16 argument ++ be8 result

/-- A PANEL_EVENT "present" or "absent" (R161, R163). -/
def notePresence (a : Fin 8) (present : Bool) (s : State) : State :=
  s.note 0x74 (panelEvent a (bit (!present)) 0 0 0)

/-- Panel `a` becomes ABSENT with miss count 0 and a PANEL_EVENT (R161, R164). -/
def makeAbsent (a : Fin 8) (s : State) : State :=
  notePresence a false (s.setPanel a { s.panel a with present := false, misses := 0 })

/-- What follows when address `a` ceases to be fitted: it is ABSENT, and no reply to a POLL of it is awaited any
longer (R164, log 20). -/
def unfit (a : Fin 8) (s : State) : State :=
  let s := if (s.panel a).present then makeAbsent a s else s
  match s.pbc.awaiting with
  | some ex => if ex.panel = a then { s with pbc := { s.pbc with awaiting := none } } else s
  | none => s

/-- The settings of panel `a` are replaced (R164). -/
def applyPanelSet (a : Fin 8) (r : Rights) (fitted : Bool) (s : State) : State :=
  let was := (s.panelCfg a).fitted
  let s := s.setPanelCfg a { fitted := fitted, rights := r }
  if !fitted then unfit a s
  else if was then s
  else s.setPanel a { s.panel a with polledAt := none }

/-- PANEL_SET (R164). -/
def doPanelSet (address level fitted : Nat) (s : State) : Answer :=
  unlessSaving s <| field (panelNo? address) fun a => field (rights? level) fun r => field (flag? fitted) fun f =>
    accept (applyPanelSet a r f s)

/-- A last action record as messages carry it: action number, code, argument, result; result 255 and the rest 0 when
absent (R160, R165, log 21). -/
def actionReport : Option ActionRecord → List Byte
  | none => be8 0 ++ be8 0 ++ be16 0 ++ be8 255
  | some r => [r.number] ++ [r.code] ++ be16 r.argument ++ be8 r.result

/-- A record report (R165). -/
def State.panelReport (s : State) (a : Fin 8) : List Byte :=
  let x := s.panel a
  be8 a.val ++ be8 (flagByte [(s.panelCfg a).fitted, x.present]) ++ be8 (s.panelCfg a).rights.code ++ be8 x.misses
    ++ actionReport x.lastAction ++ be32 (x.lastReply.getD 0)

/-- PANEL_QUERY (R165). -/
def doPanelQuery (address : Nat) (s : State) : Answer :=
  if address = 255 then report s ((List.finRange 8).flatMap s.panelReport)
  else field (panelNo? address) fun a => report s (s.panelReport a)

/-! ### The commands -/

/-- PANEL_SET arrives and is taken (R164). -/
def execPanelSet (tag address level fitted : Byte) (s : State) : Result :=
  .next (hostRequest 0x38 tag [address, level, fitted]
    (fun _ => doPanelSet address.toNat level.toNat fitted.toNat) s)

/-- PANEL_QUERY arrives and is taken (R165). -/
def execPanelQuery (tag address : Byte) (s : State) : Result :=
  .next (hostRequest 0x39 tag [address] (fun _ => doPanelQuery address.toNat) s)

end Sys2Proof.Machine
end

