-- ==== Sys2Proof/Machine/PortRequests.lean ====
section
/-! DEFINITION. The port requests of chapters 6 and 7 and the part-wide forms of chapter 2. -/

namespace Sys2Proof.Machine

/-! ### PORT_SET and PORT_QUERY -/

/-- PORT_SET for a press port is in range (R107, check 3). -/
def portSetFits (window wake idle rate : Nat) : Bool :=
  window != 0 && decide (window ≤ 32) && wake != 0 && idle != 0 && rate != 0

/-- The settings of port `p` are replaced, and what R107 says follows in the same act. -/
def applyPortSet (p : PortNo) (c : PortSettings) (s : State) : State :=
  let s := refreshWindow p (s.setPortCfg p c)
  let s := if (s.port p).link = .up then startRateWindow p s else s
  evalLamps p s

/-- PORT_SET for a press port (R107). -/
def doPressPortSet (p : PortNo) (window progress wake idle rate slowFloor lampMode : Nat) (s : State) : Answer :=
  field (flag? lampMode) fun lamp =>
    if !portSetFits window wake idle rate then .error .badField
    else accept (applyPortSet p { window := window, progress := progress, wake := wake, idle := idle, rate := rate
                                  slowFloor := slowFloor, lampHost := lamp } s) [.dispatch p, .settle]

/-- The part-wide form of PORT_SET (R28, R30, R156). -/
def doPartWideSet (reserve threshold escalation zero1 zero2 : Nat) (s : State) : Answer :=
  unlessSaving s <|
    if 4096 < reserve ∨ zero1 ≠ 0 ∨ zero2 ≠ 0 then .error .badField
    else accept (evalHorn (evalSpoolLow { s with cfg := { s.cfg with
      rushReserve := reserve, lowSpool := threshold, escalation := escalation } }))

/-- PORT_SET: port 16 is the part-wide form, whose seven other bytes spell its fields (R28, R107). -/
def doPortSet (port window progress wake idle rate slowFloor lampMode : Nat) (s : State) : Answer :=
  if port = 16 then
    doPartWideSet (window * 256 + progress) (wake * 256 + idle) rate slowFloor lampMode s
  else unlessSaving s <| field (portNo? port) fun p =>
    doPressPortSet p window progress wake idle rate slowFloor lampMode s

/-- One entry of the in-flight report (Table 1-10). -/
def Flight.report (f : Flight) : List Byte :=
  [f.tag] ++ be8 f.stage.code ++ be16 f.job ++ be32 f.pos ++ be16 f.index ++ be16 f.copy ++ be8 f.sides
    ++ be32 f.charge

/-- The in-flight report (Table 1-10). -/
def inFlightReport (l : List Flight) : List Byte := be8 l.length ++ l.flatMap Flight.report

/-- The capabilities as PORT_QUERY reports them, 0 each when absent (Table 6-4). -/
def capsReport : Option Caps → List Byte
  | none => [0, 0, 0, 0]
  | some c => be8 c.colour.code ++ be8 (bit c.duplex) ++ [c.media, c.size]

/-- The slots as PORT_QUERY reports them (Table 6-4). -/
def slotsReport (x : Port) : List Byte :=
  be16 (x.run.getD 0) ++ be16 ((x.susp.map (fun u => u.job)).getD 0)
    ++ be8 ((x.susp.map (fun u => u.reason.code)).getD 255) ++ be16 (x.inc.getD 0) ++ be16 x.pinnedQ.length

/-- The OK contents of PORT_QUERY for a press port (Table 6-4, Table 1-10). -/
def portReport (p : PortNo) (x : Port) (c : PortSettings) : List Byte :=
  be8 p.val ++ be8 x.link.code ++ be8 x.conditionByte ++ [x.mediaEmpty] ++ be8 x.wakeMode.code ++ be8 x.flags
    ++ be8 (flagByte [x.pauseHost, x.pausePanel]) ++ capsReport x.caps ++ be8 (x.maxWindow.getD 0) ++ be8 c.window
    ++ be8 x.effWindow ++ [x.nextTag] ++ be8 c.progress ++ be8 c.wake ++ be8 c.idle ++ be8 c.rate ++ be8 c.slowFloor
    ++ be8 (bit c.lampHost) ++ be8 x.latchedRate ++ be8 x.rateCount ++ be32 x.meters.sheets
    ++ be32 x.meters.impressions ++ be32 x.meters.spoiled ++ be32 x.meters.doubtful ++ slotsReport x
    ++ inFlightReport x.inFlight

/-- The OK contents of the part-wide form of PORT_QUERY (R29). -/
def State.partReport (s : State) : List Byte :=
  be32 (blockCount s.smm.sizeClass) ++ be32 s.smm.free.length ++ be16 s.smm.images.length ++ be16 s.cfg.rushReserve
    ++ be16 s.cfg.lowSpool ++ be8 s.cfg.escalation ++ be8 (bit s.smm.low)

/-- The part-wide form of PORT_QUERY (R29). -/
def doPartWideQuery (clear : Nat) (s : State) : Answer := field (flag? clear) fun _ => report s s.partReport

/-- PORT_QUERY (R29, R108). -/
def doPortQuery (port clear : Nat) (s : State) : Answer :=
  if port = 16 then doPartWideQuery clear s
  else field (portNo? port) fun p => field (flag? clear) fun wipe =>
    .ok { contents := portReport p (s.port p) (s.portCfg p)
          st := if wipe then s.modPort p (fun x => { x with meters := {} }) else s }

/-! ### Wake, pause, recovery -/

/-- The wake mode of port `p` becomes `m` and Table 6-3 is applied (R94, R97). -/
def applyWake (p : PortNo) (m : WakeMode) (s : State) : State :=
  wakeTable p (s.modPort p (fun x => { x with wakeMode := m, forceOff := x.forceOff && m == .forceOff }))

/-- PORT_WAKE (R97). -/
def doPortWake (port mode : Nat) (s : State) : Answer :=
  field (portNo? port) fun p => field (wakeMode? mode) fun m =>
    if (s.port p).wakeMode = m then .error .already
    else accept (applyWake p m s) (usableTasks p s (applyWake p m s) ++ [.settle])

/-- PORT_PAUSE (R98). -/
def doPortPause (port : Nat) (s : State) : Answer :=
  field (portNo? port) fun p =>
    if (s.port p).pauseHost then .error .already
    else accept (settlePort p (s.modPort p (fun x => { x with pauseHost := true })))

/-- PORT_UNPAUSE (R98). -/
def doPortUnpause (port : Nat) (s : State) : Answer :=
  field (portNo? port) fun p =>
    if !(s.port p).pauseHost && !(s.port p).pausePanel then .error .already
    else
      let t := s.modPort p (fun x => { x with pauseHost := false, pausePanel := false })
      accept t (usableTasks p s t ++ [.settle])

/-- PORT_RECOVER (R120). -/
def doPortRecover (port : Nat) (s : State) : Answer :=
  field (portNo? port) fun p =>
    match (s.port p).link with
    | .offline => accept (beginAttempt p 1 (setLink p .recovering s))
    | .recovering => accept (beginAttempt p 1 s)
    | .down | .waking | .up => .error .wrongState

/-! ### The commands -/

/-- PORT_SET arrives and is taken (R107). -/
def execPortSet (tag port window progress wake idle rate slowFloor lampMode : Byte) (s : State) : Result :=
  .next (hostRequest 0x20 tag [port, window, progress, wake, idle, rate, slowFloor, lampMode]
    (fun _ => doPortSet port.toNat window.toNat progress.toNat wake.toNat idle.toNat rate.toNat slowFloor.toNat
      lampMode.toNat) s)

/-- PORT_SET for port 16 arrives and is taken (R28). -/
def execPortSetPartWide (tag : Byte) (reserve threshold : Half) (escalation zero1 zero2 : Byte) (s : State) : Result :=
  .next (hostRequest 0x20 tag ([16] ++ halfBytes reserve ++ halfBytes threshold ++ [escalation, zero1, zero2])
    (fun _ => doPartWideSet reserve.toNat threshold.toNat escalation.toNat zero1.toNat zero2.toNat) s)

/-- PORT_QUERY arrives and is taken (R108). -/
def execPortQuery (tag port clear : Byte) (s : State) : Result :=
  .next (hostRequest 0x21 tag [port, clear] (fun _ => doPortQuery port.toNat clear.toNat) s)

/-- PORT_QUERY for port 16 arrives and is taken (R29). -/
def execPortQueryPartWide (tag clear : Byte) (s : State) : Result :=
  .next (hostRequest 0x21 tag [16, clear] (fun _ => doPartWideQuery clear.toNat) s)

/-- PORT_WAKE arrives and is taken (R97). -/
def execPortWake (tag port mode : Byte) (s : State) : Result :=
  .next (hostRequest 0x22 tag [port, mode] (fun _ => doPortWake port.toNat mode.toNat) s)

/-- PORT_PAUSE arrives and is taken (R98). -/
def execPortPause (tag port : Byte) (s : State) : Result :=
  .next (hostRequest 0x23 tag [port] (fun _ => doPortPause port.toNat) s)

/-- PORT_UNPAUSE arrives and is taken (R98). -/
def execPortUnpause (tag port : Byte) (s : State) : Result :=
  .next (hostRequest 0x24 tag [port] (fun _ => doPortUnpause port.toNat) s)

/-- PORT_RECOVER arrives and is taken (R120). -/
def execPortRecover (tag port : Byte) (s : State) : Result :=
  .next (hostRequest 0x25 tag [port] (fun _ => doPortRecover port.toNat) s)

end Sys2Proof.Machine
end

