-- ==== Sys2Proof/Machine/Resets.lean ====
section
/-! DEFINITION. The settings store and the four kinds of reset (chapter 12, R10). -/

namespace Sys2Proof.Machine

/-! ### The check of a settings image -/

/-- The settings of a port lie in their ranges (Table 6-2). -/
def PortSettings.valid (c : PortSettings) : Bool :=
  decide (1 ≤ c.window ∧ c.window ≤ 32 ∧ c.progress ≤ 255 ∧ 1 ≤ c.wake ∧ c.wake ≤ 255 ∧ 1 ≤ c.idle ∧ c.idle ≤ 255
    ∧ 1 ≤ c.rate ∧ c.rate ≤ 255 ∧ c.slowFloor ≤ 255)

/-- A destination record is one the table can hold (Table 4-1). -/
def Dest.valid (d : Dest) : Bool :=
  decide (d.label.length ≤ 16) && d.label.all printable && decide (d.members.length ≤ 8) && decide d.members.Nodup

/-- A tariff sheet is one the part can hold (Table 8-1, first range column). -/
def Tariff.holdable (t : Tariff) : Bool :=
  t.base.toList.all (fun b => decide (b ≤ max16)) && t.size.toList.all (fun f => decide (f ≤ max8))
    && decide (t.second ≤ 16) && decide (t.t1 ≤ max32 ∧ t.t2 ≤ max32 ∧ t.t3 ≤ max32)
    && t.discount.toList.all (fun p => decide (p ≤ 100))

/-- An account record is one the part can hold (Table 9-1). -/
def Account.valid (a : Account) : Bool :=
  decide (a.limit ≤ max32 ∧ a.periodCharged ≤ max32 ∧ a.periodImpressions ≤ max32 ∧ a.periodSheets ≤ max32
    ∧ a.periodWaste ≤ max32 ∧ a.periodDoubtful ≤ max32 ∧ a.lifeCharged ≤ max48 ∧ a.lifeImpressions ≤ max48
    ∧ a.periodOpened ≤ max32)

/-- The schedule is absent, or its time is a value the shop clock can hold (R122). -/
def scheduleValid : Option Schedule → Bool
  | none => true
  | some x => decide (x.time ≤ max32)

/-- Every item lies within its range and the ACTIVE sheet is consistent (R167). -/
def Settings.valid (g : Settings) : Bool :=
  g.ports.toList.all PortSettings.valid && decide (g.rushReserve ≤ 4096) && decide (g.lowSpool ≤ max16)
    && decide (g.escalation ≤ max8) && g.dests.toList.all Dest.valid && g.active.holdable && g.active.consistent
    && g.staged.holdable && scheduleValid g.schedule && g.accounts.toList.all Account.valid

/-- The image that a write of these contents puts into nonvolatile memory: the check computed over them goes with them
(R166). -/
def Settings.sealed (g : Settings) : SettingsImage := { contents := g, check := Config.imageCheck g }

/-- The image passes its check: the stored check agrees with the one computed over the contents read, and every item
lies within its range (R167). -/
def SettingsImage.passes (m : SettingsImage) : Bool := m.check == Config.imageCheck m.contents && m.contents.valid

/-- The start-up load: the settings taken, and whether they are the factory values (R167). -/
def loadImage (stored : Option SettingsImage) : Settings × Bool :=
  match stored with
  | some m => if m.passes then (m.contents, false) else (Settings.factory, true)
  | none => (Settings.factory, true)

/-! ### Resets -/

/-- The part after a reset that loads the settings image (R167, Table 12-2). A link that the reset takes to DOWN hands over
no PORT_EVENT (R93, log 28). The shop clock starts from 0, and with it its first second (R11, log 27). -/
def coldStart (size : Fin 4) (stored : Option SettingsImage) (s : State) : State :=
  let t := State.boot size (loadImage stored).1
  { t with
    mlc := { t.mlc with defaultsLoaded := (loadImage stored).2 }
    ss := { stored := stored, saving := none }
    base := { acts := s.base.acts }
    freeCount := s.freeCount
    pending := s.pending }

/-- The part after RESTART WARM (R171, Table 12-2). A link that the restart takes to DOWN hands over no PORT_EVENT (R93,
log 28). The shop clock keeps running, and so does its current second (R11). -/
def warmStart (s : State) : State :=
  let t := State.boot s.smm.sizeClass s.cfg
  { t with
    mlc := { t.mlc with clock := s.mlc.clock, clockUnset := s.mlc.clockUnset, defaultsLoaded := s.mlc.defaultsLoaded }
    ports := s.ports.map (fun x => { meters := x.meters })
    ss := { stored := s.ss.stored, saving := none }
    base := s.base
    freeCount := s.freeCount
    pending := s.pending }

/-- The end of every reset: SPOOL_LOW, the wake rules and the lamps are evaluated (R30, R88, R155). -/
def endReset (s : State) : State × List Task := (evalSpoolLow s, [.settle])

/-- The nonvolatile image after a power-on or reset input: a save cut off once a byte of the image had changed leaves
contents that fail their check (R170). -/
def cutOff (ss : Ss) (imageTouched : Bool) : Option SettingsImage :=
  if ss.saving.isSome && imageTouched then none else ss.stored

/-- Power-on and the reset input (R167, R170). -/
def powerReset (strap : BitVec 2) (imageTouched : Bool) (s : State) : State × List Task :=
  endReset (coldStart (Fin.ofNat 4 strap.toNat) (cutOff s.ss imageTouched) s)

/-- A restart takes effect (R10, R171). -/
def restartNow (k : RestartKind) (s : State) : State × List Task :=
  match k with
  | .cold => endReset (coldStart s.smm.sizeClass s.ss.stored s)
  | .warm => endReset (warmStart s)

/-! ### SAVE -/

/-- SAVE (R166, R168). -/
def doSave (s : State) : Answer := unlessSaving s <| accept { s with ss := { s.ss with saving := some s.cfg } }

/-- RESTART (R171). -/
def doRestart (kind : Nat) (s : State) : Answer :=
  unlessSaving s <|
    match kind with
    | 0 => accept { s with mlc := { s.mlc with restart := some .cold } }
    | 1 => accept { s with mlc := { s.mlc with restart := some .warm } }
    | _ => .error .badField

/-- The write ends: what was read back agrees with the capture, which is then stored with its check, or it does not
(R166, R168). -/
def saveEnds (agrees : Bool) (s : State) : State :=
  match s.ss.saving with
  | none => s
  | some g =>
    if agrees then
      { s with ss := { stored := some g.sealed, saving := none }, mlc := { s.mlc with defaultsLoaded := false } }.note 0x75
        (be8 0)
    else
      { s with ss := { stored := Config.imageAfterFault s.freeCount, saving := none }
               freeCount := s.freeCount + 1 }.note 0x75 (be8 1)

/-! ### The commands -/

/-- Power-on (R167). -/
def execPowerOn (strap : BitVec 2) (imageTouched : Bool) (s : State) : Result :=
  .next (act (powerReset strap imageTouched) s)

/-- The external reset input, equivalent to power-on (Table 0-2, R167). -/
def execResetInput (strap : BitVec 2) (imageTouched : Bool) (s : State) : Result :=
  .next (act (powerReset strap imageTouched) s)

/-- SAVE arrives and is taken (R168). -/
def execSave (tag : Byte) (s : State) : Result := .next (hostRequest 0x04 tag [] (fun _ => doSave) s)

/-- The settings write ends (R168). -/
def execSaveWriteEnd (agrees : Bool) (s : State) : Result := .next (act (fun s => (saveEnds agrees s, [])) s)

/-- RESTART COLD arrives and is taken (R171). -/
def execRestartCold (tag : Byte) (s : State) : Result := .next (hostRequest 0x05 tag [0] (fun _ => doRestart 0) s)

/-- RESTART WARM arrives and is taken (R171). -/
def execRestartWarm (tag : Byte) (s : State) : Result := .next (hostRequest 0x05 tag [1] (fun _ => doRestart 1) s)

end Sys2Proof.Machine
end

