-- ==== Sys2Proof/Machine/RouteRequests.lean ====
section
/-! DEFINITION. ROUTE_SET, ROUTE_MASK and ROUTE_QUERY (section 4.2). -/

namespace Sys2Proof.Machine

/-- Every field is to be changed when no mask is present (R56). -/
def fullMask : RouteMask := { members := true, label := true, enabled := true, insert := true }

/-- The destination record after a ROUTE_SET of the fields to be changed; `none` when check 3 or 4 of R56 fails. -/
def routedRecord (m : RouteMask) (old : Dest) (flags count : Nat) (members label : List Byte) : Option Dest :=
  match (if m.members then members? count members else some old.members),
      (if m.label then label? label else some old.label) with
  | some ports, some text =>
    some { label := text, members := ports
           enabled := if m.enabled then bitOf flags 0 else old.enabled
           insert := if m.insert then bitOf flags 1 else old.insert }
  | _, _ => none

/-- The queue offer of an ENABLED destination: its jobs one at a time, head first (R58). -/
def queueOffer (s : State) (d : Fin 32) : List Task :=
  if (s.dest d).enabled then (s.queue d).map .offer else []

/-- ROUTE_SET under the route mask it found (R56, R57, R58). -/
def doRouteSet (mask : Option RouteMask) (dest flags count : Nat) (members label : List Byte) (s : State) : Answer :=
  unlessSaving s <| field (destNo? dest) fun d =>
    if 4 ≤ flags then .error .badField
    else field (routedRecord (mask.getD fullMask) (s.dest d) flags count members label) fun r =>
      accept (s.setDest d r) (queueOffer (s.setDest d r) d ++ [.settle])

/-- ROUTE_MASK (R57). -/
def doRouteMask (mask : Nat) (s : State) : Answer :=
  if mask = 0 ∨ 16 ≤ mask then .error .badField
  else accept { s with dt := { s.dt with routeMask := some {
    members := bitOf mask 0, label := bitOf mask 1, enabled := bitOf mask 2, insert := bitOf mask 3 } } }

/-- The members as messages carry them: eight bytes, 255 in the unused places (R59). -/
def padMembers (l : List PortNo) : List Byte :=
  l.map (fun p => BitVec.ofNat 8 p.val) ++ List.replicate (8 - l.length) 255

/-- ROUTE_QUERY (R59). -/
def doRouteQuery (dest : Nat) (s : State) : Answer :=
  field (destNo? dest) fun d =>
    let r := s.dest d
    report s (be8 r.flags ++ be8 r.members.length ++ padMembers r.members ++ padLabel r.label
      ++ be16 (s.queue d).length)

/-! ### The commands -/

/-- ROUTE_SET arrives and is taken (R56, R57, R58). -/
def execRouteSet (tag dest flags count : Byte) (members : Vector Byte 8) (label : Vector Byte 16) (s : State) : Result :=
  .next (hostRequest 0x18 tag ([dest, flags, count] ++ members.toList ++ label.toList)
    (fun mask => doRouteSet mask dest.toNat flags.toNat count.toNat members.toList label.toList) s)

/-- ROUTE_MASK arrives and is taken (R57). -/
def execRouteMask (tag mask : Byte) (s : State) : Result :=
  .next (hostRequest 0x19 tag [mask] (fun _ => doRouteMask mask.toNat) s)

/-- ROUTE_QUERY arrives and is taken (R59). -/
def execRouteQuery (tag dest : Byte) (s : State) : Result :=
  .next (hostRequest 0x1A tag [dest] (fun _ => doRouteQuery dest.toNat) s)

end Sys2Proof.Machine
end

