-- ==== Sys2Proof/Machine/AccountRequests.lean ====
section
/-! DEFINITION. The account requests (section 9.2) and the close of account periods (R127, R138). -/

namespace Sys2Proof.Machine

/-- The account flags of a flags byte below 16 (R136). -/
def Account.withFlags (a : Account) (flags limit : Nat) : Account :=
  { a with isOpen := bitOf flags 0, limited := bitOf flags 1, fixed := bitOf flags 2, exempt := bitOf flags 3
           limit := limit }

/-- ACCOUNT_SET (R136). -/
def doAccountSet (account flags limit : Nat) (s : State) : Answer :=
  unlessSaving s <| field (accountNo? account) fun a =>
    if 16 ≤ flags then .error .badField
    else accept (s.setAccount a ((s.account a).withFlags flags limit)) (s.clearTasks a ++ [.settle])

/-- The jobs that name account `a` (R137). -/
def State.jobsOf (s : State) (a : Fin 128) : List Job := s.jt.jobs.filter (fun j => j.account == a)

/-- The OK contents of ACCOUNT_QUERY (R137). -/
def State.accountReport (s : State) (a : Fin 128) : List Byte :=
  let x := s.account a
  be8 a.val ++ be8 x.flags ++ be32 x.limit ++ be32 x.periodCharged ++ be32 x.periodImpressions ++ be32 x.periodSheets
    ++ be32 x.periodWaste ++ be32 x.periodDoubtful ++ be32 (s.reservation a).mills
    ++ be16 (s.reservation a).impressions ++ be48 x.lifeCharged ++ be48 x.lifeImpressions ++ be32 x.periodOpened
    ++ be16 (s.jobsOf a).length ++ be16 ((s.jobsOf a).filter (fun j => j.holds.credit)).length

/-- ACCOUNT_QUERY (R137). -/
def doAccountQuery (account : Nat) (s : State) : Answer :=
  field (accountNo? account) fun a => report s (s.accountReport a)

/-- The account as its period restarts (R138). -/
def Account.closePeriod (a : Account) (clock : Nat) : Account :=
  { a with periodCharged := 0, periodImpressions := 0, periodSheets := 0, periodWaste := 0, periodDoubtful := 0
           periodOpened := clock }

/-- The period of every account is closed, and a credit clear is made for each in ascending order (R127, R138,
log 17). -/
def closeAll (s : State) : State × List Task :=
  ({ s with cfg := { s.cfg with accounts := s.cfg.accounts.map (fun a => a.closePeriod s.clock) } },
    (List.finRange 128).flatMap s.clearTasks)

/-- The reply contents of a single close: the period counters before it, and the two period opened times (R138). -/
def closeReport (x : Account) (clock : Nat) : List Byte :=
  be32 x.periodCharged ++ be32 x.periodImpressions ++ be32 x.periodSheets ++ be32 x.periodWaste
    ++ be32 x.periodDoubtful ++ be32 x.periodOpened ++ be32 clock

/-- ACCOUNT_CLOSE (R138). -/
def doAccountClose (account : Nat) (s : State) : Answer :=
  if account = 255 then accept (closeAll s).1 ((closeAll s).2 ++ [.settle])
  else field (accountNo? account) fun a =>
    .ok { contents := closeReport (s.account a) s.clock
          st := s.setAccount a ((s.account a).closePeriod s.clock), tasks := s.clearTasks a ++ [.settle] }

/-! ### The commands -/

/-- ACCOUNT_SET arrives and is taken (R136). -/
def execAccountSet (tag account flags : Byte) (limit : Word) (s : State) : Result :=
  .next (hostRequest 0x2C tag ([account, flags] ++ wordBytes limit)
    (fun _ => doAccountSet account.toNat flags.toNat limit.toNat) s)

/-- ACCOUNT_QUERY arrives and is taken (R137). -/
def execAccountQuery (tag account : Byte) (s : State) : Result :=
  .next (hostRequest 0x2D tag [account] (fun _ => doAccountQuery account.toNat) s)

/-- ACCOUNT_CLOSE arrives and is taken (R138). -/
def execAccountClose (tag account : Byte) (s : State) : Result :=
  .next (hostRequest 0x2E tag [account] (fun _ => doAccountClose account.toNat) s)

end Sys2Proof.Machine
end

