-- ==== Sys2Proof/Machine/TariffRequests.lean ====
section
/-! DEFINITION. The tariff requests, the cutover and the shop clock's seconds (sections 8.2 and 8.3, R11). -/

namespace Sys2Proof.Machine

/-! ### Editing -/

/-- The sheet with one figure written; `none` when the item, its index or the value is out of range (Table 8-2). -/
def Tariff.edit (t : Tariff) (item index value : Nat) : Option Tariff :=
  match item with
  | 0 => if h : index < 16 then (if value ≤ 65535 then some { t with base := t.base.set index value h } else none)
    else none
  | 1 => if h : index < 8 then (if value ≤ 255 then some { t with size := t.size.set index value h } else none)
    else none
  | 2 => if index = 0 ∧ value ≤ 16 then some { t with second := value } else none
  | 3 =>
    match index with
    | 0 => some { t with t1 := value }
    | 1 => some { t with t2 := value }
    | 2 => some { t with t3 := value }
    | _ => none
  | 4 => if h : index < 4 then (if value ≤ 100 then some { t with discount := t.discount.set index value h } else none)
    else none
  | _ => none

/-- TARIFF_SET (R123). -/
def doTariffSet (item index value : Nat) (s : State) : Answer :=
  unlessSaving s <|
    if s.cfg.direct then
      field (s.cfg.active.edit item index value) fun t =>
        if !t.consistent then .error .invalidTariff
        else .ok { contents := be8 t.check, st := { s with cfg := { s.cfg with active := t } } }
    else
      field (s.cfg.staged.edit item index value) fun t =>
        .ok { contents := be8 t.check, st := { s with cfg := { s.cfg with staged := t } } }

/-- TARIFF_MODE (R124). -/
def doTariffMode (mode : Nat) (s : State) : Answer :=
  unlessSaving s <| field (flag? mode) fun d =>
    if s.cfg.direct = d then .error .already else accept { s with cfg := { s.cfg with direct := d } }

/-- The figures of a sheet as TARIFF_QUERY reports them, with its consistency result (R125). -/
def Tariff.report (t : Tariff) : List Byte :=
  t.base.toList.flatMap be16 ++ t.size.toList.flatMap be8 ++ be8 t.second ++ be32 t.t1 ++ be32 t.t2 ++ be32 t.t3
    ++ t.discount.toList.flatMap be8 ++ be8 t.check

/-- The schedule as TARIFF_QUERY reports it (R125). -/
def scheduleReport : Option Schedule → List Byte
  | none => be8 0 ++ be32 0 ++ be8 0
  | some x => be8 1 ++ be32 x.time ++ be8 (bit x.close)

/-- TARIFF_QUERY (R125). -/
def doTariffQuery (which : Nat) (s : State) : Answer :=
  field (flag? which) fun staged =>
    report s ((if staged then s.cfg.staged else s.cfg.active).report ++ be8 (bit s.cfg.direct)
      ++ scheduleReport s.cfg.schedule)

/-! ### Cutover -/

/-- The contents of a TARIFF_EVENT: outcome, reason, source, periods closed (R129). -/
def tariffEvent (reason source : Nat) (closed : Bool) : List Byte :=
  be8 (bit (reason != 0)) ++ be8 reason ++ be8 source ++ be8 (bit closed)

/-- A cutover whose STAGED sheet has passed the check (R127). -/
def cutover (close : Bool) (source : Nat) (s : State) : State × List Task :=
  let s := { s with cfg := { s.cfg with active := s.cfg.staged } }
  let s := s.note 0x73 (tariffEvent 0 source close)
  if close then ((closeAll s).1, (closeAll s).2 ++ [.settle]) else (s, [])

/-- TARIFF_CUTOVER (R126): action 0 NOW, 1 AT, 2 CANCEL. -/
def doCutover (action flags time : Nat) (s : State) : Answer :=
  unlessSaving s <| field (flag? flags) fun close =>
    match action with
    | 0 =>
      if time ≠ 0 then .error .badField
      else if !s.cfg.staged.consistent then .error .invalidTariff
      else accept (cutover close 0 s).1 (cutover close 0 s).2
    | 1 => accept { s with cfg := { s.cfg with schedule := some { time := time, close := close } } }
    | 2 =>
      if time ≠ 0 ∨ close then .error .badField
      else if s.cfg.schedule.isNone then .error .already
      else accept { s with cfg := { s.cfg with schedule := none } }
    | _ => .error .badField

/-- The schedule has fallen due: it becomes absent, and the cutover is made or reported failed (R128). -/
def scheduleDue (x : Schedule) (s : State) : State × List Task :=
  let s := { s with cfg := { s.cfg with schedule := none } }
  if s.cfg.staged.consistent then cutover x.close 1 s
  else (s.note 0x73 (tariffEvent s.cfg.staged.check 1 false), [])

/-- The schedule is examined at an increment of the shop clock (R128). -/
def examineSchedule (s : State) : State × List Task :=
  match s.cfg.schedule with
  | none => (s, [])
  | some x => if x.time ≤ s.clock then scheduleDue x s else (s, [])

/-! ### The seconds of the time base -/

/-- The value the clock takes at its next increment (R11). -/
def State.nextClock (s : State) : Nat := if max32 ≤ s.clock then 0 else s.clock + 1

/-- A second of the shop clock ends: the time base is at that moment, the clock goes up, CLOCK_UNSET is set at a wrap, the
next second begins, and the horn is evaluated, since an entry's time in RAISED may have reached the escalation time by
then (R11, R156). -/
def countSecond (s : State) : State :=
  evalHorn { s with
    mlc := { s.mlc with clock := s.nextClock, clockUnset := s.mlc.clockUnset || decide (max32 ≤ s.clock) }
    base := { s.base with now := s.nextIncrement, secondAt := s.nextIncrement } }

/-- The next increment makes the schedule fall due (R128). -/
def State.dueNext (s : State) : Bool :=
  match s.cfg.schedule with
  | none => false
  | some x => decide (x.time ≤ s.nextClock)

/-! ### The commands -/

/-- TARIFF_SET arrives and is taken (R123). -/
def execTariffSet (tag item index : Byte) (value : Word) (s : State) : Result :=
  .next (hostRequest 0x28 tag ([item, index] ++ wordBytes value)
    (fun _ => doTariffSet item.toNat index.toNat value.toNat) s)

/-- TARIFF_QUERY arrives and is taken (R125). -/
def execTariffQuery (tag which : Byte) (s : State) : Result :=
  .next (hostRequest 0x29 tag [which] (fun _ => doTariffQuery which.toNat) s)

/-- TARIFF_MODE arrives and is taken (R124). -/
def execTariffMode (tag mode : Byte) (s : State) : Result :=
  .next (hostRequest 0x2A tag [mode] (fun _ => doTariffMode mode.toNat) s)

/-- TARIFF_CUTOVER NOW arrives and is taken (R126, R127). -/
def execTariffCutoverNow (tag flags : Byte) (time : Word) (s : State) : Result :=
  .next (hostRequest 0x2B tag ([0, flags] ++ wordBytes time) (fun _ => doCutover 0 flags.toNat time.toNat) s)

/-- TARIFF_CUTOVER AT arrives and is taken (R126). -/
def execTariffCutoverAt (tag flags : Byte) (time : Word) (s : State) : Result :=
  .next (hostRequest 0x2B tag ([1, flags] ++ wordBytes time) (fun _ => doCutover 1 flags.toNat time.toNat) s)

/-- TARIFF_CUTOVER CANCEL arrives and is taken (R126). -/
def execTariffCutoverCancel (tag flags : Byte) (time : Word) (s : State) : Result :=
  .next (hostRequest 0x2B tag ([2, flags] ++ wordBytes time) (fun _ => doCutover 2 flags.toNat time.toNat) s)

/-- The current second of the shop clock ends (R11, R12, R128). -/
def execShopClockTick (s : State) : Result := .next (act (fun s => examineSchedule (countSecond s)) s)

/-- The second at which the schedule falls due passes; with no schedule that falls due at the next increment, nothing
does (R128, log 12). -/
def execCutoverScheduleDue (s : State) : Result :=
  .next (act (fun s => if s.dueNext then examineSchedule (countSecond s) else (s, [])) s)

end Sys2Proof.Machine
end

