-- ==== Sys2Proof/Machine/MessageLink.lean ====
section
/-! DEFINITION. STATUS, IDENTIFY and CLOCK_SET (section 1.7), the handler of every request kind, and the two ends of the host link (R2, R7, R10). -/

namespace Sys2Proof.Machine

/-! ### The MLC's own requests -/

/-- The ten states in the order of Table 1-9. -/
def allStates : List JobState :=
  [.spooling, .queued, .held, .running, .starved, .draining, .suspended, .cancelling, .done, .cancelled]

/-- How many job records are in state `st` (R14). -/
def State.countIn (s : State) (st : JobState) : Nat := (s.jt.jobs.filter (fun j => j.state == st)).length

/-- The OK contents of STATUS (Table 1-9). -/
def State.statusReport (s : State) : List Byte :=
  be8 s.mlc.flags ++ be16 s.mlc.discarded ++ be32 s.smm.free.length
    ++ allStates.flatMap (fun st => be16 (s.countIn st)) ++ be8 s.au.announced.length ++ be32 s.clock

/-- STATUS (R14): RESET_SEEN is cleared once it has been reported. -/
def doStatus (s : State) : Answer :=
  .ok { contents := s.statusReport, st := { s with mlc := { s.mlc with resetSeen := false } } }

/-- IDENTIFY (R15). -/
def doIdentify (s : State) : Answer :=
  report s ([0x06, 0x68, 0x41] ++ be8 s.smm.sizeClass.val ++ be8 16 ++ be8 8)

/-- CLOCK_SET (R12): the current second restarts, so that the next increment comes one full second later; the time base
goes on as it was (R11). -/
def doClockSet (value : Nat) (s : State) : Answer :=
  accept { s with
    mlc := { s.mlc with clock := value, clockUnset := false }
    base := { s.base with secondAt := s.base.now } }

/-! ### The handler of each kind -/

/-- The block that owns a request of this kind, given its payload; a kind that Table 1-3 does not list is answered by
the MLC before it comes here (R5). -/
def takeByKind (kind : Nat) (p : List Byte) : Handler := fun mask s =>
  match kind with
  | 0x01 => doStatus s
  | 0x02 => doIdentify s
  | 0x03 => doClockSet (wordAt p 0) s
  | 0x04 => doSave s
  | 0x05 => doRestart (byteAt p 0) s
  | 0x08 => doJobOpen (byteAt p 0) (byteAt p 1) (byteAt p 2) (byteAt p 3) (halfAt p 4) (byteAt p 6) (byteAt p 7)
      (byteAt p 8) (byteAt p 9) s
  | 0x09 => doSheetData (halfAt p 0) (p.drop 2) s
  | 0x0A => doSheetEnd (halfAt p 0) (byteAt p 2) (wordAt p 3) s
  | 0x0B => doJobClose (halfAt p 0) s
  | 0x0C => doJobQuery (halfAt p 0) s
  | 0x0D => doJobList (byteAt p 0) (byteAt p 1) s
  | 0x0E => doHold .host (halfAt p 0) s
  | 0x0F => doRelease .host (halfAt p 0) s
  | 0x10 => doCancel .host (halfAt p 0) s
  | 0x11 => doSuspend .host (halfAt p 0) s
  | 0x12 => doResume .host (halfAt p 0) s
  | 0x13 => doJobMove (halfAt p 0) (byteAt p 2) s
  | 0x14 => doJobForget (halfAt p 0) s
  | 0x18 => doRouteSet mask (byteAt p 0) (byteAt p 1) (byteAt p 2) ((p.drop 3).take 8) (p.drop 11) s
  | 0x19 => doRouteMask (byteAt p 0) s
  | 0x1A => doRouteQuery (byteAt p 0) s
  | 0x20 => doPortSet (byteAt p 0) (byteAt p 1) (byteAt p 2) (byteAt p 3) (byteAt p 4) (byteAt p 5) (byteAt p 6)
      (byteAt p 7) s
  | 0x21 => doPortQuery (byteAt p 0) (byteAt p 1) s
  | 0x22 => doPortWake (byteAt p 0) (byteAt p 1) s
  | 0x23 => doPortPause (byteAt p 0) s
  | 0x24 => doPortUnpause (byteAt p 0) s
  | 0x25 => doPortRecover (byteAt p 0) s
  | 0x28 => doTariffSet (byteAt p 0) (byteAt p 1) (wordAt p 2) s
  | 0x29 => doTariffQuery (byteAt p 0) s
  | 0x2A => doTariffMode (byteAt p 0) s
  | 0x2B => doCutover (byteAt p 0) (byteAt p 1) (wordAt p 2) s
  | 0x2C => doAccountSet (byteAt p 0) (byteAt p 1) (wordAt p 2) s
  | 0x2D => doAccountQuery (byteAt p 0) s
  | 0x2E => doAccountClose (byteAt p 0) s
  | 0x30 => doAlertQuery (byteAt p 0) s
  | 0x31 => doAlertAck (byteAt p 0) s
  | 0x32 => doSilence s
  | 0x33 => doLampMode (byteAt p 0) (byteAt p 1) s
  | 0x34 => doLampSet (byteAt p 0) (byteAt p 1) (byteAt p 2) (byteAt p 3) s
  | 0x38 => doPanelSet (byteAt p 0) (byteAt p 1) (byteAt p 2) s
  | 0x39 => doPanelQuery (byteAt p 0) s
  | _ => .error .unknownKind

/-! ### The receive side -/

/-- A complete frame from the host is presented for admission, in an act of its own (R3). -/
def hostFrame (f : Frame) (s : State) : State := closeAct (present f (takeByKind f.kind.toNat f.payload) s)

/-- One byte arrives on the host link (R2). -/
def hostByte (s : State) (b : Byte) : State :=
  let r := rxByte s.mlc.rx b
  let t := { s with mlc := { s.mlc with rx := r.1 } }
  match r.2 with
  | .nothing => t
  | .discard => countDiscard t
  | .frame f => hostFrame f t

/-! ### The transmit side -/

/-- The restart that the frame being sent announces: it is the reply of an accepted RESTART (R10). -/
def Mlc.announcing (m : Mlc) : Option RestartKind :=
  match m.tx with
  | .sending f true => if f.kind = 0x85 ∧ f.payload = [0] then m.restart else none
  | .sending _ false => none
  | .idle => none

/-- The frame being sent has gone: the entry of a reply leaves the holding area (R4, R7). -/
def Mlc.sent (m : Mlc) : Mlc :=
  match m.tx with
  | .idle => m
  | .sending _ isReply =>
    { m with tx := .idle, lastReply := isReply, holding := if isReply then m.holding.drop 1 else m.holding }

/-- The last byte of the frame being sent has gone (R7); that of an accepted RESTART's reply makes the restart take
effect before another frame starts (R10). -/
def endFrame (s : State) : State × List Task :=
  match s.mlc.announcing with
  | some k => restartNow k s
  | none => ({ s with mlc := s.mlc.sent }, [])

/-! ### The commands -/

/-- Bytes arrive on the host link, in order; each completes its frame in an act of its own (R2, R3, log 3). -/
def execHostFrameReceived (bytes : List Byte) (s : State) : Result := .next (bytes.foldl hostByte (openAct s))

/-- The transmitter finishes a frame (R7, R10). -/
def execFrameSent (s : State) : Result := .next (act endFrame s)

/-- The last byte of an accepted RESTART's reply has gone; while no such reply is being sent, nothing happens (R10,
log 13). -/
def execRestartBegin (s : State) : Result :=
  .next (act (fun s => match s.mlc.announcing with
    | some k => restartNow k s
    | none => (s, [])) s)

/-- A frame of any kind arrives and is taken: one that fails the checks of the MLC is answered so (R5, log 23). -/
def execUnknownKind (kind tag : Byte) (payload : List Byte) (s : State) : Result :=
  .next (hostRequest kind.toNat tag payload (takeByKind kind.toNat payload) s)

/-- STATUS arrives and is taken (R14). -/
def execStatus (tag : Byte) (s : State) : Result := .next (hostRequest 0x01 tag [] (fun _ => doStatus) s)

/-- IDENTIFY arrives and is taken (R15). -/
def execIdentify (tag : Byte) (s : State) : Result := .next (hostRequest 0x02 tag [] (fun _ => doIdentify) s)

/-- CLOCK_SET arrives and is taken (R12). -/
def execClockSet (tag : Byte) (value : Word) (s : State) : Result :=
  .next (hostRequest 0x03 tag (wordBytes value) (fun _ => doClockSet value.toNat) s)

end Sys2Proof.Machine
end

