-- ==== Sys2Proof/Machine/PanelBus.lean ====
section
/-! DEFINITION. The panel bus: POLL, ANSWER and panel actions (sections 11.2 and 11.3). -/

namespace Sys2Proof.Machine

/-! ### Polling -/

/-- Panel `a` is due in a round: fitted, and PRESENT, or not polled for 2 s or since the reset (R160). -/
def State.pollDue (s : State) (a : Fin 8) : Bool :=
  (s.panelCfg a).fitted && ((s.panel a).present || (match (s.panel a).polledAt with
    | none => true
    | some t => decide (t + 2 * Config.second ≤ s.base.now)))

/-- The panel to poll next: the first one due in what is left of the round, else in a new round (R160). -/
def State.nextPoll (s : State) : Option (Fin 8) :=
  match (List.finRange 8).find? (fun a => decide (s.pbc.roundNext ≤ a.val) && s.pollDue a) with
  | some a => some a
  | none => (List.finRange 8).find? s.pollDue

/-- The head entry of the announcement list as a POLL carries it (R160). -/
def State.headReport (s : State) : List Byte :=
  match s.au.announced with
  | [] => be8 255 ++ be8 255 ++ be8 0 ++ be8 255 ++ be32 0 ++ be32 0
  | e :: _ =>
    let a := s.alert e
    be8 e.val ++ be8 (kindOf e).code ++ be8 a.state.code ++ be8 ((portOf e).map (fun p => p.val) |>.getD 255)
      ++ be32 a.raiseTime ++ be32 (a.detail.getD 0)

/-- The labels of the destinations that list port `p`, in ascending destination number (R69). -/
def State.labelsOf (s : State) (p : PortNo) : List (List Byte) :=
  (allDests.filter (fun d => (s.dest d).members.contains p)).map (fun d => (s.dest d).label)

/-- The labels of the head entry's port (R160). -/
def State.headLabels (s : State) : List (List Byte) :=
  match s.au.announced with
  | [] => []
  | e :: _ =>
    match portOf e with
    | some p => s.labelsOf p
    | none => []

/-- The payload of a POLL to panel `a` (R160). -/
def State.pollPayload (s : State) (a : Fin 8) : List Byte :=
  be8 s.au.announced.length ++ s.headReport ++ be8 s.headLabels.length ++ s.headLabels.flatMap padLabel
    ++ be8 (flagByte [s.au.horn, s.au.silenced]) ++ actionReport (s.panel a).lastAction

/-- The POLL frame to panel `a` (R160). -/
def State.pollFrame (s : State) (a : Fin 8) : Frame :=
  { kind := 0x60, tag := BitVec.ofNat 8 a.val, payload := s.pollPayload a }

/-- Panel `a` is polled (R160). -/
def pollPanel (a : Fin 8) (s : State) : State :=
  let f := s.pollFrame a
  let s := s.setPanel a { s.panel a with polledAt := some s.base.now }
  { s with pbc := { s.pbc with roundNext := a.val + 1, awaiting := some { panel := a, poll := f } } }

/-- The PBC sends a POLL if the bus is free and a panel is due (R160). With no panel due the place of the round is kept,
so polling goes on from there after the bus has idled (log 11). -/
def pollNext (s : State) : State :=
  match s.pbc.awaiting, s.nextPoll with
  | none, some a => pollPanel a s
  | _, _ => s

/-! ### Replies -/

/-- The exchange under way ends (R160). -/
def endExchange (s : State) : State := { s with pbc := { s.pbc with awaiting := none } }

/-- A miss (R161). -/
def miss (a : Fin 8) (s : State) : State :=
  let s := endExchange s
  let x := s.panel a
  if !x.present then s
  else if 2 ≤ x.misses then makeAbsent a s
  else s.setPanel a { x with misses := x.misses + 1 }

/-- A good reply, before its ANSWER is decided (R161). Its "present" notice goes before the action's own, but for a
PORT_EVENT of the act (R163, R93, log 32). -/
def goodReply (a : Fin 8) (s : State) : State :=
  let s := endExchange s
  let x := s.panel a
  let t := s.setPanel a { x with present := true, misses := 0, lastReply := some s.clock }
  if x.present then t else notePresence a true t

/-! ### Actions -/

/-- The least rights level for an action code (Table 11-2). -/
def leastLevel (code : Nat) : Rights :=
  if code ≤ 2 then .ack else if code ≤ 6 then .floor else .full

/-- The panel PAUSE: PANEL joins the pause set (R163). -/
def panelPauses (p : PortNo) (s : State) : Answer :=
  if (s.port p).pausePanel then .error .already
  else accept (settlePort p (s.modPort p (fun x => { x with pausePanel := true })))

/-- The panel UNPAUSE: PANEL alone leaves the pause set (R163). -/
def panelUnpauses (p : PortNo) (s : State) : Answer :=
  if !(s.port p).pausePanel then .error .already
  else
    let t := s.modPort p (fun x => { x with pausePanel := false })
    accept t (usableTasks p s t ++ [.settle])

/-- Check 1 of R162: the code and, for ACK, PAUSE and UNPAUSE, the argument are in range. -/
def actionInRange (code argument : Nat) : Bool :=
  match code with
  | 1 => decide (argument ≤ 112)
  | 3 | 4 => decide (argument ≤ 15)
  | _ => decide (code ≤ 9)

/-- The owning rule's checks and effects of an action in range and within the panel's rights (R162, R163). -/
def ownerAction (a : Fin 8) (code argument : Nat) (s : State) : Answer :=
  match code with
  | 1 => field (entryNo? argument) fun e => doAckOne (.panel a) e s
  | 2 => doSilence s
  | 3 => field (portNo? argument) fun p => panelPauses p s
  | 4 => field (portNo? argument) fun p => panelUnpauses p s
  | 5 => doHold .panel argument s
  | 6 => doRelease .panel argument s
  | 7 => doSuspend .panel argument s
  | 8 => doResume .panel argument s
  | 9 => doCancel .panel argument s
  | _ => .error .badField

/-- What an action of panel `a` is answered (R162): range, rights, owner. -/
def panelAction (a : Fin 8) (code argument : Nat) (s : State) : Answer :=
  if !actionInRange code argument then .error .badField
  else if (s.panelCfg a).rights.code < (leastLevel code).code then .error .refusedRights
  else ownerAction a code argument s

/-- The ANSWER repeats the panel's last action (R162). -/
def isRepetition (x : Panel) (number code : Byte) : Bool :=
  match x.lastAction with
  | some r => r.number == number && r.code == code
  | none => false

/-- An action of panel `a` has been decided: the record takes it, and a PANEL_EVENT follows the notices of its
effects (R162, R163). -/
def recordAction (a : Fin 8) (number code : Byte) (argument : Nat) (result : Status) (s : State)
    (tasks : List Task) : State × List Task :=
  (s.setPanel a { s.panel a with lastAction := some {
      number := number, code := code, argument := argument, result := result.code } },
    tasks ++ [.note 0x74 (panelEvent a 2 code.toNat argument result.code)])

/-- A good ANSWER of panel `a` is decided (R162). -/
def decideAnswer (a : Fin 8) (code number : Byte) (argument : Nat) (s : State) : State × List Task :=
  if code = 0 then (s, [])
  else if isRepetition (s.panel a) number code then (s, [])
  else match panelAction a code.toNat argument s with
    | .error e => recordAction a number code argument e s []
    | .ok r => recordAction a number code argument .ok r.st r.tasks

/-- A frame with tag `tag` and this four-byte payload completes within the wait: a good reply when it carries the
polled address, else a miss; while no reply is awaited it is discarded (R161). -/
def onAnswer (tag code number : Byte) (argument : Half) (s : State) : State × List Task :=
  match s.pbc.awaiting with
  | none => (s, [])
  | some ex =>
    if tag.toNat = ex.panel.val then decideAnswer ex.panel code number argument.toNat (goodReply ex.panel s)
    else (miss ex.panel s, [])

/-- A frame completes within the reply wait (R161). -/
def onReplyFrame (checkHolds : Bool) (kind tag : Byte) (payload : List Byte) (s : State) : State × List Task :=
  match s.pbc.awaiting with
  | none => (s, [])
  | some ex =>
    match payload with
    | [code, number, hi, lo] =>
      if checkHolds ∧ kind = 0x61 then onAnswer tag code number (hi ++ lo) s else (miss ex.panel s, [])
    | _ => (miss ex.panel s, [])

/-- The reply wait ends with no frame (R161). -/
def onTimeout (s : State) : State :=
  match s.pbc.awaiting with
  | none => s
  | some ex => miss ex.panel s

/-! ### The commands -/

/-- The PBC polls (R160). -/
def execPoll (s : State) : Result := .next (act (fun s => (pollNext s, [])) s)

/-- The reply wait ends (R161). -/
def execPollReplyTimeout (s : State) : Result := .next (act (fun s => (onTimeout s, [])) s)

/-- An ANSWER with action NONE (R162). -/
def execPanelNone (panel number : Byte) (argument : Half) (s : State) : Result :=
  .next (act (onAnswer panel 0 number argument) s)

/-- An ANSWER with action ACK (R152, R162). -/
def execPanelAck (panel number : Byte) (argument : Half) (s : State) : Result :=
  .next (act (onAnswer panel 1 number argument) s)

/-- An ANSWER with action SILENCE (R157, R162). -/
def execPanelSilence (panel number : Byte) (argument : Half) (s : State) : Result :=
  .next (act (onAnswer panel 2 number argument) s)

/-- An ANSWER with action PAUSE (R98, R163). -/
def execPanelPause (panel number : Byte) (argument : Half) (s : State) : Result :=
  .next (act (onAnswer panel 3 number argument) s)

/-- An ANSWER with action UNPAUSE (R98, R163). -/
def execPanelUnpause (panel number : Byte) (argument : Half) (s : State) : Result :=
  .next (act (onAnswer panel 4 number argument) s)

/-- An ANSWER with action HOLD (R44, R163). -/
def execPanelHold (panel number : Byte) (argument : Half) (s : State) : Result :=
  .next (act (onAnswer panel 5 number argument) s)

/-- An ANSWER with action RELEASE (R45, R163). -/
def execPanelRelease (panel number : Byte) (argument : Half) (s : State) : Result :=
  .next (act (onAnswer panel 6 number argument) s)

/-- An ANSWER with action SUSPEND (R78, R163). -/
def execPanelSuspend (panel number : Byte) (argument : Half) (s : State) : Result :=
  .next (act (onAnswer panel 7 number argument) s)

/-- An ANSWER with action RESUME (R80, R163). -/
def execPanelResume (panel number : Byte) (argument : Half) (s : State) : Result :=
  .next (act (onAnswer panel 8 number argument) s)

/-- An ANSWER with action CANCEL (R48, R163). -/
def execPanelCancel (panel number : Byte) (argument : Half) (s : State) : Result :=
  .next (act (onAnswer panel 9 number argument) s)

/-- A frame completes within the reply wait that is no good reply (R161); one that is, is decided (log 24). -/
def execPollReplyBadFrame (checkHolds : Bool) (kind tag : Byte) (payload : List Byte) (s : State) : Result :=
  .next (act (onReplyFrame checkHolds kind tag payload) s)

/-- An ANSWER whose action code is above 9 (R162). -/
def execPanelActionBadCode (panel code number : Byte) (argument : Half) (s : State) : Result :=
  .next (act (onAnswer panel code number argument) s)

end Sys2Proof.Machine
end

