-- ==== Sys2Proof/Machine/PortTimers.lean ====
section
/-! DEFINITION. The timers of a port (R95, R96, R105, R115, R118). The expiry of a timer that does not run, or that could not run in the link state the port is in, has no effect (log 9). -/

namespace Sys2Proof.Machine

/-- Another HAIL is sent and the HAIL timer starts again (R96). -/
def hailAgain (p : PortNo) (s : State) : State :=
  if (s.port p).link = .waking ∧ (s.port p).hailTimer then s.send p hailFrame else s

/-- The wake timer expires without a HELLO: OFFLINE, WAKE_FAIL on (R96). -/
def wakeFails (p : PortNo) (s : State) : State :=
  if (s.port p).link = .waking ∧ (s.port p).wakeTimer.isSome then
    condOn p .wakeFail none ((setLink p .offline s).modPort p (fun x => { x with wakeTimer := none, hailTimer := false }))
  else s

/-- The idle timer expires: the link goes DOWN (R90, R95). -/
def sleepNow (p : PortNo) (s : State) : State × List Task :=
  if (s.port p).link = .up ∧ (s.port p).inFlight.isEmpty ∧ (s.port p).idleTimer.isSome then
    (leaveUpDown p s, [.settle])
  else (s, [])

/-- The progress watchdog expires: the port stalls with detail TIMEOUT (R115, R117). -/
def watchdogExpires (p : PortNo) (s : State) : State × List Task :=
  if (s.port p).link = .up ∧ (s.port p).watchdog.isSome then stall p stallTimeout s else (s, [])

/-- The third attempt has failed: OFFLINE, LINK_LOST on (R119). -/
def linkLost (p : PortNo) (s : State) : State :=
  condOn p .linkLost none ((setLink p .offline s).modPort p (fun x => { x with attempt := none }))

/-- The attempt timer expires: the next attempt, or OFFLINE after the third (R118, R119). -/
def attemptExpires (p : PortNo) (s : State) : State :=
  match (s.port p).link, (s.port p).attempt with
  | .recovering, some k => if k < 3 then beginAttempt p (k + 1) s else linkLost p s
  | _, _ => s

/-- The rate of a window that ends calls for SLOW (R105). -/
def Port.slowNow (x : Port) (slowFloor : Nat) : Bool := x.busy && slowFloor != 0 && decide (x.rateCount < slowFloor)

/-- A rate window ends: the rate is latched, SLOW is evaluated, the next window starts (R105). -/
def rateWindowEnds (p : PortNo) (s : State) : State :=
  let x := s.port p
  if x.link = .up then
    let t := s.modPort p (fun x => { x with latchedRate := x.rateCount })
    startRateWindow p
      (if x.slowNow (s.portCfg p).slowFloor then condOn p .slow (some x.rateCount) t else condOff p .slow t)
  else s

/-! ### The commands -/

/-- The 1 s HAIL timer of port `port` expires (R96). -/
def execHailTimerExpiry (port : PortNo) (s : State) : Result := .next (act (fun s => (hailAgain port s, [])) s)

/-- The wake timer of port `port` expires (R96). -/
def execWakeTimerExpiry (port : PortNo) (s : State) : Result := .next (act (fun s => (wakeFails port s, [])) s)

/-- The idle timer of port `port` expires (R95). -/
def execIdleTimerExpiry (port : PortNo) (s : State) : Result := .next (act (sleepNow port) s)

/-- The progress watchdog of port `port` expires (R115). -/
def execProgressWatchdogExpiry (port : PortNo) (s : State) : Result := .next (act (watchdogExpires port) s)

/-- The attempt timer of port `port` expires (R118). -/
def execAttemptTimerExpiry (port : PortNo) (s : State) : Result := .next (act (fun s => (attemptExpires port s, [])) s)

/-- A rate window of port `port` ends (R105). -/
def execRateWindowEnd (port : PortNo) (s : State) : Result := .next (act (fun s => (rateWindowEnds port s, [])) s)

end Sys2Proof.Machine
end

