-- ==== Sys2Proof/Machine/PressLink.lean ====
section
/-! DEFINITION. Frames from a printer and the end of a transfer (chapters 6 and 7). -/

namespace Sys2Proof.Machine

/-! ### The watchdog and the newest record -/

/-- The progress watchdog starts for the progress timeout held now; with a timeout of 0 it is stopped (R115). -/
def startWatchdog (p : PortNo) (s : State) : State :=
  s.modPort p (fun x => { x with
    watchdog := if (s.portCfg p).progress = 0 then none else some (s.portCfg p).progress })

/-- The newest record of the list takes stage `st` (R102, R103). -/
def markNewest (st : FlightStage) (l : List Flight) : List Flight :=
  l.dropLast ++ (l.getLast?.map (fun f => { f with stage := st })).toList

/-- The newest record is in stage `st` and, where a tag is named, carries it. -/
def newestIs (l : List Flight) (st : FlightStage) (tag : Option Byte) : Bool :=
  match l.getLast? with
  | none => false
  | some f => f.stage == st && (match tag with
    | none => true
    | some t => f.tag == t)

/-! ### Frames from the printer, by link state (R87) -/

/-- The printer maximum window a HELLO gives: 0 as 1, above 32 as 32 (R89). -/
def clampWindow (w : Nat) : Nat := max 1 (min 32 w)

/-- A HELLO taken on an UP link with an empty list (R89). -/
def renewCaps (p : PortNo) (caps : Caps) (window : Nat) (s : State) : State :=
  startRateWindow p (refreshWindow p (s.modPort p (fun x => { x with caps := some caps, maxWindow := some window })))

/-- HELLO (R87, R89, R116). -/
def onHello (p : PortNo) (caps : Caps) (window : Nat) (s : State) : State × List Task :=
  match (s.port p).link with
  | .waking | .recovering => (comeUp p caps window s, [.settle])
  | .up =>
    if (s.port p).inFlight.isEmpty then
      (renewCaps p caps window s,
        if (s.port p).usable && (s.port p).run.isNone then [.pull p, .settle] else [.settle])
    else stall p stallSequence s
  | .down | .offline => (s, [])

/-- TAKEN (R103, R116). -/
def onTaken (p : PortNo) (tag : Byte) (s : State) : State × List Task :=
  if (s.port p).link ≠ .up then (s, [])
  else if newestIs (s.port p).inFlight .sent (some tag) then
    (startWatchdog p (s.modPort p (fun x => { x with inFlight := markNewest .taken x.inFlight })),
      [.dispatch p, .settle])
  else stall p stallSequence s

/-- The job side of an OUT: delivered, in flight, impressions, charged, pinned (R40, R42). -/
def Job.delivers (j : Job) (f : Flight) : Job :=
  { j with
    delivered := satAdd max32 j.delivered 1
    inFlight := j.inFlight - 1
    impressions := satAdd max32 j.impressions f.sides
    charged := satAdd max48 j.charged f.charge
    pinned := true }

/-- The port side of an OUT: the record leaves, the meters and the rate counter go up, and the watchdog restarts or
stops (R104, R105, R106, R115). -/
def portDelivers (p : PortNo) (f : Flight) (rest : List Flight) (s : State) : State :=
  let s := s.modPort p (fun x => { x with
    inFlight := rest
    meters := { x.meters with
      sheets := satAdd max32 x.meters.sheets 1, impressions := satAdd max32 x.meters.impressions f.sides }
    rateCount := satAdd max8 x.rateCount 1 })
  let s := refreshWindow p s
  if rest.any (fun g => g.stage == .sent || g.stage == .taken) then startWatchdog p s
  else s.modPort p (fun x => { x with watchdog := none })

/-- A sheet is delivered: the account, the job and the port (R104, R141). -/
def deliver (p : PortNo) (f : Flight) (rest : List Flight) (s : State) : State :=
  let s := match s.job? f.job with
    | some j => chargeAccount j.account f.charge f.sides s
    | none => s
  portDelivers p f rest (s.modJob f.job (fun j => j.delivers f))

/-- OUT (R104, R116). -/
def onOut (p : PortNo) (tag : Byte) (s : State) : State × List Task :=
  if (s.port p).link ≠ .up then (s, [])
  else match (s.port p).inFlight with
    | f :: rest =>
      if f.stage = .taken ∧ f.tag = tag then (deliver p f rest s, [.runEnd p .out, .dispatch p, .settle])
      else stall p stallSequence s
    | [] => stall p stallSequence s

/-- The first JAM: steps 1 to 4 of R112; step 5 follows what the rewind brings about. JAMMED stands before the end of a
drain or cancel and the pull after it are carried out, so that pull finds a port that is not usable (log 29). -/
def jamFirst (p : PortNo) (location spoiled : Nat) (s : State) : State × List Task :=
  let s := rewind p (countSpoiled p (min (takenCount (s.port p).inFlight) spoiled) s)
  (setCondition p (s.port p).ready true (s.port p).doorOpen (s.port p).mediaEmpty s,
    [.runEnd p .rewind, .jamOn p location, .settle])

/-- JAM (R112, R113). -/
def onJam (p : PortNo) (location spoiled : Nat) (s : State) : State × List Task :=
  if (s.port p).link ≠ .up then (s, [])
  else if (s.port p).jammed then (alertRepeat (entryNo p .jam) location s, [])
  else jamFirst p location spoiled s

/-- CLEAR (R114). -/
def onClear (p : PortNo) (s : State) : State × List Task :=
  if (s.port p).link = .up ∧ (s.port p).jammed then
    let x := s.port p
    let t := condOff p .jam (setCondition p x.ready false x.doorOpen x.mediaEmpty s)
    (t, usableTasks p s t ++ [.settle])
  else (s, [])

/-- STATE (R91, R92). Where one STATE turns both DOOR and MEDIA_OUT on, DOOR joins the announcement list first: R91 gives the
two conditions no order, so this is the model's choice (log 34). -/
def onState (p : PortNo) (ready door : Bool) (mask : Byte) (s : State) : State × List Task :=
  if (s.port p).link = .up then
    let t := evalMedia p (evalDoor p (setCondition p ready (s.port p).jammed door mask s))
    (t, usableTasks p s t ++ [.settle])
  else (s, [])

/-! ### Fields out of range, and frames that arrive as bytes (R86, Table 1-12) -/

/-- A HELLO with these payload bytes; one with a field out of range is discarded. -/
def helloFrame (p : PortNo) (colour duplex : Nat) (media size : Byte) (window : Nat) (s : State) : State × List Task :=
  match colour? colour, flag? duplex with
  | some c, some d => onHello p { colour := c, duplex := d, media := media, size := size } (clampWindow window) s
  | _, _ => (s, [])

/-- A JAM with these payload bytes; one with a location above 15 is discarded. -/
def jamFrame (p : PortNo) (location spoiled : Nat) (s : State) : State × List Task :=
  if 15 < location then (s, []) else onJam p location spoiled s

/-- A STATE with these payload bytes; one with a flag that is neither 0 nor 1 is discarded. -/
def stateFrame (p : PortNo) (ready door : Nat) (mask : Byte) (s : State) : State × List Task :=
  match flag? ready, flag? door with
  | some r, some d => onState p r d mask s
  | _, _ => (s, [])

/-- A complete frame on the press link of port `p`: one whose kind, length or fields Table 1-12 does not accept from a
printer is discarded (R86). -/
def pressFrame (p : PortNo) (f : Frame) (s : State) : State × List Task :=
  match f.kind.toNat, f.payload with
  | 0x41, [c, d, m, z, w] => helloFrame p c.toNat d.toNat m z w.toNat s
  | 0x42, [] => onTaken p f.tag s
  | 0x43, [] => onOut p f.tag s
  | 0x44, [l, n] => jamFrame p l.toNat n.toNat s
  | 0x45, [] => onClear p s
  | 0x46, [r, d, m] => stateFrame p r.toNat d.toNat m s
  | _, _ => (s, [])

/-- One byte arrives on the press link of port `p` (R86); a discarded frame is counted nowhere. -/
def pressByte (p : PortNo) (s : State) (b : Byte) : State :=
  let r := rxByte (s.port p).rx b
  let t := s.modPort p (fun x => { x with rx := r.1 })
  match r.2 with
  | .nothing => t
  | .discard => t
  | .frame f => closeAct (pressFrame p f t)

/-! ### The end of a transfer -/

/-- The last byte of SHEET_TAIL has been sent: the record becomes SENT and the watchdog is armed (R102, R115). The
frames of the transfer have gone down the link (log 19). -/
def transferEnds (p : PortNo) (s : State) : State :=
  if newestIs (s.port p).inFlight .sending none then
    let sent := (s.port p).transfer.map (fun f => (p, f))
    let t := s.modPort p (fun x => { x with inFlight := markNewest .sent x.inFlight, transfer := [] })
    startWatchdog p { t with pressOut := t.pressOut ++ sent }
  else s

/-! ### The commands -/

/-- A HELLO arrives on port `port` (R89). -/
def execHello (port : PortNo) (colour duplex media size maxWindow : Byte) (s : State) : Result :=
  .next (act (helloFrame port colour.toNat duplex.toNat media size maxWindow.toNat) s)

/-- A TAKEN arrives (R103). -/
def execTaken (port : PortNo) (tag : Byte) (s : State) : Result := .next (act (onTaken port tag) s)

/-- An OUT arrives (R104). -/
def execOut (port : PortNo) (tag : Byte) (s : State) : Result := .next (act (onOut port tag) s)

/-- A JAM arrives (R112, R113). -/
def execJam (port : PortNo) (location spoiled : Byte) (s : State) : Result :=
  .next (act (jamFrame port location.toNat spoiled.toNat) s)

/-- A CLEAR arrives (R114). -/
def execClear (port : PortNo) (s : State) : Result := .next (act (onClear port) s)

/-- A STATE arrives (R91). -/
def execState (port : PortNo) (ready door mediaEmpty : Byte) (s : State) : Result :=
  .next (act (stateFrame port ready.toNat door.toNat mediaEmpty) s)

/-- Bytes arrive on the press link of port `port`; frames that fail a check are discarded without effect (R86,
log 18). -/
def execPressFrameDiscarded (port : PortNo) (bytes : List Byte) (s : State) : Result :=
  .next (bytes.foldl (pressByte port) (openAct s))

/-- The transfer of port `port` ends (R102). -/
def execTransferEnd (port : PortNo) (s : State) : Result := .next (act (fun s => (transferEnds port s, [])) s)

end Sys2Proof.Machine
end

