-- ==== Sys2Proof/Machine/Dispatch.lean ====
section
/-! DEFINITION. One arm for each command of the table. -/

namespace Sys2Proof.Machine

def exec (i : Instr) (s : State) : Host.Outcome State Fault Refusal :=
  match i with
  | .powerOn strap imageTouched => Sys2Proof.Machine.execPowerOn strap imageTouched s
  | .resetInput strap imageTouched => Sys2Proof.Machine.execResetInput strap imageTouched s
  | .shopClockTick => Sys2Proof.Machine.execShopClockTick s
  | .cutoverScheduleDue => Sys2Proof.Machine.execCutoverScheduleDue s
  | .hostFrameReceived bytes => Sys2Proof.Machine.execHostFrameReceived bytes s
  | .frameSent => Sys2Proof.Machine.execFrameSent s
  | .restartBegin => Sys2Proof.Machine.execRestartBegin s
  | .unknownKind kind tag payload => Sys2Proof.Machine.execUnknownKind kind tag payload s
  | .status tag => Sys2Proof.Machine.execStatus tag s
  | .identify tag => Sys2Proof.Machine.execIdentify tag s
  | .clockSet tag value => Sys2Proof.Machine.execClockSet tag value s
  | .save tag => Sys2Proof.Machine.execSave tag s
  | .saveWriteEnd agrees => Sys2Proof.Machine.execSaveWriteEnd agrees s
  | .restartCold tag => Sys2Proof.Machine.execRestartCold tag s
  | .restartWarm tag => Sys2Proof.Machine.execRestartWarm tag s
  | .jobOpen tag account dest cls priority copies options colour media size => Sys2Proof.Machine.execJobOpen tag account dest cls priority copies options colour media size s
  | .sheetData tag job data => Sys2Proof.Machine.execSheetData tag job data s
  | .sheetEnd tag job sides offset => Sys2Proof.Machine.execSheetEnd tag job sides offset s
  | .jobClose tag job => Sys2Proof.Machine.execJobClose tag job s
  | .jobQuery tag job => Sys2Proof.Machine.execJobQuery tag job s
  | .jobList tag selector number => Sys2Proof.Machine.execJobList tag selector number s
  | .jobHold tag job => Sys2Proof.Machine.execJobHold tag job s
  | .jobRelease tag job => Sys2Proof.Machine.execJobRelease tag job s
  | .jobCancel tag job => Sys2Proof.Machine.execJobCancel tag job s
  | .jobSuspend tag job => Sys2Proof.Machine.execJobSuspend tag job s
  | .jobResume tag job => Sys2Proof.Machine.execJobResume tag job s
  | .jobMove tag job dest => Sys2Proof.Machine.execJobMove tag job dest s
  | .jobForget tag job => Sys2Proof.Machine.execJobForget tag job s
  | .routeSet tag dest flags count members label => Sys2Proof.Machine.execRouteSet tag dest flags count members label s
  | .routeMask tag mask => Sys2Proof.Machine.execRouteMask tag mask s
  | .routeQuery tag dest => Sys2Proof.Machine.execRouteQuery tag dest s
  | .portSet tag port window progress wake idle rate slowFloor lampMode => Sys2Proof.Machine.execPortSet tag port window progress wake idle rate slowFloor lampMode s
  | .portSetPartWide tag reserve threshold escalation zero1 zero2 => Sys2Proof.Machine.execPortSetPartWide tag reserve threshold escalation zero1 zero2 s
  | .portQuery tag port clear => Sys2Proof.Machine.execPortQuery tag port clear s
  | .portQueryPartWide tag clear => Sys2Proof.Machine.execPortQueryPartWide tag clear s
  | .portWake tag port mode => Sys2Proof.Machine.execPortWake tag port mode s
  | .portPause tag port => Sys2Proof.Machine.execPortPause tag port s
  | .portUnpause tag port => Sys2Proof.Machine.execPortUnpause tag port s
  | .portRecover tag port => Sys2Proof.Machine.execPortRecover tag port s
  | .tariffSet tag item index value => Sys2Proof.Machine.execTariffSet tag item index value s
  | .tariffQuery tag which => Sys2Proof.Machine.execTariffQuery tag which s
  | .tariffMode tag mode => Sys2Proof.Machine.execTariffMode tag mode s
  | .tariffCutoverNow tag flags time => Sys2Proof.Machine.execTariffCutoverNow tag flags time s
  | .tariffCutoverAt tag flags time => Sys2Proof.Machine.execTariffCutoverAt tag flags time s
  | .tariffCutoverCancel tag flags time => Sys2Proof.Machine.execTariffCutoverCancel tag flags time s
  | .accountSet tag account flags limit => Sys2Proof.Machine.execAccountSet tag account flags limit s
  | .accountQuery tag account => Sys2Proof.Machine.execAccountQuery tag account s
  | .accountClose tag account => Sys2Proof.Machine.execAccountClose tag account s
  | .alertQuery tag selector => Sys2Proof.Machine.execAlertQuery tag selector s
  | .alertAck tag entry => Sys2Proof.Machine.execAlertAck tag entry s
  | .hornSilence tag => Sys2Proof.Machine.execHornSilence tag s
  | .lampMode tag port mode => Sys2Proof.Machine.execLampMode tag port mode s
  | .lampSet tag port red amber green => Sys2Proof.Machine.execLampSet tag port red amber green s
  | .panelSet tag address level fitted => Sys2Proof.Machine.execPanelSet tag address level fitted s
  | .panelQuery tag address => Sys2Proof.Machine.execPanelQuery tag address s
  | .hello port colour duplex media size maxWindow => Sys2Proof.Machine.execHello port colour duplex media size maxWindow s
  | .taken port tag => Sys2Proof.Machine.execTaken port tag s
  | .out port tag => Sys2Proof.Machine.execOut port tag s
  | .jam port location spoiled => Sys2Proof.Machine.execJam port location spoiled s
  | .clear port => Sys2Proof.Machine.execClear port s
  | .state port ready door mediaEmpty => Sys2Proof.Machine.execState port ready door mediaEmpty s
  | .pressFrameDiscarded port bytes => Sys2Proof.Machine.execPressFrameDiscarded port bytes s
  | .transferEnd port => Sys2Proof.Machine.execTransferEnd port s
  | .hailTimerExpiry port => Sys2Proof.Machine.execHailTimerExpiry port s
  | .wakeTimerExpiry port => Sys2Proof.Machine.execWakeTimerExpiry port s
  | .idleTimerExpiry port => Sys2Proof.Machine.execIdleTimerExpiry port s
  | .progressWatchdogExpiry port => Sys2Proof.Machine.execProgressWatchdogExpiry port s
  | .attemptTimerExpiry port => Sys2Proof.Machine.execAttemptTimerExpiry port s
  | .rateWindowEnd port => Sys2Proof.Machine.execRateWindowEnd port s
  | .escalationReached entry => Sys2Proof.Machine.execEscalationReached entry s
  | .poll => Sys2Proof.Machine.execPoll s
  | .pollReplyTimeout => Sys2Proof.Machine.execPollReplyTimeout s
  | .panelNone panel number argument => Sys2Proof.Machine.execPanelNone panel number argument s
  | .panelAck panel number argument => Sys2Proof.Machine.execPanelAck panel number argument s
  | .panelSilence panel number argument => Sys2Proof.Machine.execPanelSilence panel number argument s
  | .panelPause panel number argument => Sys2Proof.Machine.execPanelPause panel number argument s
  | .panelUnpause panel number argument => Sys2Proof.Machine.execPanelUnpause panel number argument s
  | .panelHold panel number argument => Sys2Proof.Machine.execPanelHold panel number argument s
  | .panelRelease panel number argument => Sys2Proof.Machine.execPanelRelease panel number argument s
  | .panelSuspend panel number argument => Sys2Proof.Machine.execPanelSuspend panel number argument s
  | .panelResume panel number argument => Sys2Proof.Machine.execPanelResume panel number argument s
  | .panelCancel panel number argument => Sys2Proof.Machine.execPanelCancel panel number argument s
  | .pollReplyBadFrame checkHolds kind tag payload => Sys2Proof.Machine.execPollReplyBadFrame checkHolds kind tag payload s
  | .panelActionBadCode panel code number argument => Sys2Proof.Machine.execPanelActionBadCode panel code number argument s

end Sys2Proof.Machine
end

