-- ==== Sys2Proof/WellFormed.lean ====
section
/-! DEFINITION. Which commands are well formed: each row of the table with the operands its rule gives it. -/

namespace Sys2Proof

/-- Why a command is not well formed. -/
inductive WfError where
  /-- A request with tag 0, which is the UNKNOWN_KIND row's (R5). -/
  | tagZero
  /-- SHEET_DATA with no data byte, or with more than 1,024 (Table 1-3). -/
  | dataLength
  /-- A press-port form of PORT_SET or PORT_QUERY that names port 16 (R28, R29). -/
  | partWide
  /-- A press frame field that Table 1-12 does not accept, which is PRESS_FRAME_DISCARDED's (R86). -/
  | pressField
  /-- An UNKNOWN_KIND request that passes the MLC's checks (R5). -/
  | passesChecks
  /-- A payload longer than a frame may carry (R1). -/
  | tooLong
  /-- A panel address above 7 (R159). -/
  | panelAddress
  /-- A PANEL_ACTION_BAD_CODE whose code is not above 9 (R162). -/
  | goodCode
  deriving DecidableEq, Repr

/-- `e` where the condition holds. -/
def wfWhen (e : WfError) (bad : Bool) : Option WfError := if bad then some e else none

/-- A request's tag is 1-255 (Table 1-7). -/
def tagCheck (tag : Byte) : Option WfError := wfWhen .tagZero (tag == 0)

/-- A panel address is 0-7 (R159). -/
def panelCheck (panel : Byte) : Option WfError := wfWhen .panelAddress (decide (7 < panel.toNat))

/-- What makes a command ill formed, if anything. -/
def Instr.check : Instr → Option WfError
  | .powerOn _ _ | .resetInput _ _ | .shopClockTick | .cutoverScheduleDue | .hostFrameReceived _ | .frameSent
  | .restartBegin | .saveWriteEnd _ => none
  | .unknownKind kind tag payload =>
    (wfWhen .tooLong (decide (Machine.maxPayload < payload.length))).orElse fun _ =>
      wfWhen .passesChecks (Machine.mlcCheck kind tag payload.length).isNone
  | .status tag | .identify tag | .clockSet tag _ | .save tag | .restartCold tag | .restartWarm tag
  | .jobOpen tag _ _ _ _ _ _ _ _ _ | .sheetEnd tag _ _ _ | .jobClose tag _ | .jobQuery tag _ | .jobList tag _ _
  | .jobHold tag _ | .jobRelease tag _ | .jobCancel tag _ | .jobSuspend tag _ | .jobResume tag _ | .jobMove tag _ _
  | .jobForget tag _ | .routeSet tag _ _ _ _ _ | .routeMask tag _ | .routeQuery tag _
  | .portSetPartWide tag _ _ _ _ _ | .portQueryPartWide tag _ | .portWake tag _ _ | .portPause tag _
  | .portUnpause tag _ | .portRecover tag _ | .tariffSet tag _ _ _ | .tariffQuery tag _ | .tariffMode tag _
  | .tariffCutoverNow tag _ _ | .tariffCutoverAt tag _ _ | .tariffCutoverCancel tag _ _ | .accountSet tag _ _ _
  | .accountQuery tag _ | .accountClose tag _ | .alertQuery tag _ | .alertAck tag _ | .hornSilence tag
  | .lampMode tag _ _ | .lampSet tag _ _ _ _ | .panelSet tag _ _ _ | .panelQuery tag _ => tagCheck tag
  | .sheetData tag _ data =>
    (tagCheck tag).orElse fun _ => wfWhen .dataLength (data.length == 0 || decide (1024 < data.length))
  | .portSet tag port _ _ _ _ _ _ _ => (tagCheck tag).orElse fun _ => wfWhen .partWide (port == 16)
  | .portQuery tag port _ => (tagCheck tag).orElse fun _ => wfWhen .partWide (port == 16)
  | .hello _ colour duplex _ _ _ => wfWhen .pressField (decide (1 < colour.toNat) || decide (1 < duplex.toNat))
  | .jam _ location _ => wfWhen .pressField (decide (15 < location.toNat))
  | .state _ ready door _ => wfWhen .pressField (decide (1 < ready.toNat) || decide (1 < door.toNat))
  | .taken _ _ | .out _ _ | .clear _ | .pressFrameDiscarded _ _ | .transferEnd _ | .hailTimerExpiry _
  | .wakeTimerExpiry _ | .idleTimerExpiry _ | .progressWatchdogExpiry _ | .attemptTimerExpiry _ | .rateWindowEnd _
  | .escalationReached _ | .poll | .pollReplyTimeout => none
  | .panelNone panel _ _ | .panelAck panel _ _ | .panelSilence panel _ _ | .panelPause panel _ _
  | .panelUnpause panel _ _ | .panelHold panel _ _ | .panelRelease panel _ _ | .panelSuspend panel _ _
  | .panelResume panel _ _ | .panelCancel panel _ _ => panelCheck panel
  | .pollReplyBadFrame _ _ _ payload => wfWhen .tooLong (decide (Machine.maxPayload < payload.length))
  | .panelActionBadCode panel code _ _ =>
    (panelCheck panel).orElse fun _ => wfWhen .goodCode (decide (code.toNat ≤ 9))

/-- A command is well formed. The meanings are given for every command, well formed or not (log 24). -/
def Instr.wf (i : Instr) : Bool := i.check.isNone

end Sys2Proof
end

