-- ==== Sys2Proof/Safety.lean ====
section
/-! DEFINITION. The terms claims use: how a command ends, the frames that arrive as commands, and the invariants of the machine. -/

namespace Sys2Proof.Machine

/-! ### How a command ends -/

/-- Command `i`, run on `s`, completes and leaves `w`, but for the end of its act: the notices handed over in the act
join the notice queue (R8, R33, R93; those that no rule orders in the model's order, log 7) and then an idle transmitter
starts a frame (R7; that it looks once, at the act's end, is the model's choice, log 31). -/
def Ends (i : Instr) (s w : State) : Prop := exec i s = .next (pump (flushNotes w))

/-- The state as the block that owns a request sees it: an act begins with nothing on the press links, and the route
mask is consumed (R57). -/
def State.taking (s : State) : State := consumeMask (openAct s)

/-- A request that arrives now is taken at once: the holding area has room and no RESTART has been taken (R3, R5, R10). -/
abbrev State.takes (s : State) : Prop := s.mlc.holding.length < holdingCapacity ∧ s.mlc.restart = none

/-- Request `f`, carried by command `i`, is taken and answered with this status and contents, and leaves `w`. -/
def Answers (i : Instr) (s : State) (f : Frame) (status : Status) (contents : List Byte) (w : State) : Prop :=
  Ends i s (answer f status contents w)

/-- Request `f` is accepted and leaves `w`, after which wake control, the busy flags and the lamps of every port are
brought up to date in the same act (R94, R95, R105, R154). -/
def AnswersSettled (i : Instr) (s : State) (f : Frame) (contents : List Byte) (w : State) : Prop :=
  Ends i s (settle (answer f .ok contents w))

/-- Request `f` is accepted and leaves `w`, and `tasks` follow from it in the same act (log 8). -/
def AnswersThen (i : Instr) (s : State) (f : Frame) (contents : List Byte) (tasks : List Task) (w : State) : Prop :=
  Ends i s (cascade tasks (answer f .ok contents w))

/-- A request whose payload is a job number. -/
def jobFrame (kind : Byte) (tag : Byte) (job : Half) : Frame := { kind := kind, tag := tag, payload := halfBytes job }

/-- The contents of every reply in the holding area, with its request. -/
def State.replies (s : State) : List (Frame × Option Frame) := s.mlc.holding.map (fun e => (e.request, e.reply))

/-! ### Job actions, which the host and the panels share -/

/-- The five job actions that the host and a panel can both ask (R163). -/
inductive JobVerb where
  | hold | release | suspend | resume | cancel
  deriving DecidableEq, Repr

/-- The host's request kind (Table 1-3). -/
def JobVerb.kind : JobVerb → Byte
  | .hold => 0x0E | .release => 0x0F | .suspend => 0x11 | .resume => 0x12 | .cancel => 0x10

/-- The panel's action code (Table 11-2). -/
def JobVerb.code : JobVerb → Byte
  | .hold => 5 | .release => 6 | .suspend => 7 | .resume => 8 | .cancel => 9

/-- The host's command. -/
def JobVerb.host (v : JobVerb) (tag : Byte) (job : Half) : Instr :=
  match v with
  | .hold => .jobHold tag job | .release => .jobRelease tag job | .suspend => .jobSuspend tag job
  | .resume => .jobResume tag job | .cancel => .jobCancel tag job

/-- The panel's command. -/
def JobVerb.panel (v : JobVerb) (panel number : Byte) (job : Half) : Instr :=
  match v with
  | .hold => .panelHold panel number job | .release => .panelRelease panel number job
  | .suspend => .panelSuspend panel number job | .resume => .panelResume panel number job
  | .cancel => .panelCancel panel number job

/-- The good reply of a PRESENT panel, before its action is decided: the exchange ends, the miss count is 0 and the
reply is timed (R161). -/
def State.heard (s : State) (a : Fin 8) : State :=
  (endExchange (openAct s)).setPanel a { s.panel a with present := true, misses := 0, lastReply := some s.mlc.clock }

/-- A panel action: its code, the least rights for it, and the command that carries it. -/
structure PanelAction where
  code : Byte
  level : Rights
  command : Instr

/-- The nine actions that panel `a` can ask with this number and argument (Table 11-2). -/
def panelActions (a : Fin 8) (number : Byte) (argument : Half) : List PanelAction :=
  let b : Byte := BitVec.ofNat 8 a.val
  [{ code := 1, level := .ack, command := .panelAck b number argument },
    { code := 2, level := .ack, command := .panelSilence b number argument },
    { code := 3, level := .floor, command := .panelPause b number argument },
    { code := 4, level := .floor, command := .panelUnpause b number argument },
    { code := 5, level := .floor, command := .panelHold b number argument },
    { code := 6, level := .floor, command := .panelRelease b number argument },
    { code := 7, level := .full, command := .panelSuspend b number argument },
    { code := 8, level := .full, command := .panelResume b number argument },
    { code := 9, level := .full, command := .panelCancel b number argument }]

/-- Panel `a` is PRESENT, its reply is awaited, its rights reach `level`, and the action is not the one it sent last
(R161, R162). -/
abbrev State.awaits (s : State) (a : Fin 8) (level : Rights) (number code : Byte) : Prop :=
  (∃ poll, s.pbc.awaiting = some { panel := a, poll := poll }) ∧ (s.panel a).present = true
    ∧ level.code ≤ (s.panelCfg a).rights.code ∧ ∀ r ∈ (s.panel a).lastAction, ¬ (r.number = number ∧ r.code = code)

/-- The last action record of panel `a` becomes this action with its result (R162). -/
def State.recorded (s : State) (a : Fin 8) (number code : Byte) (argument : Nat) (result : Status) : State :=
  let r : ActionRecord := { number := number, code := code, argument := argument, result := result.code }
  s.setPanel a { s.panel a with lastAction := some r }

/-- The PANEL_EVENT "action" (R163). -/
def State.panelNote (s : State) (a : Fin 8) (code : Byte) (argument : Nat) (result : Status) : State :=
  s.note 0x74 ([BitVec.ofNat 8 a.val, 2, code] ++ be16 argument ++ [BitVec.ofNat 8 result.code])

/-- Panel `a`'s action, carried by command `i`, is carried out as `f` says, `fin` follows in the same act, and the
action is recorded and reported (R162, R163). -/
def PanelDoes (i : Instr) (s : State) (a : Fin 8) (number code : Byte) (argument : Nat) (fin f : State → State) : Prop :=
  Ends i s ((fin ((f (s.heard a)).recorded a number code argument .ok)).panelNote a code argument .ok)

/-- Panel `a`'s action, carried by command `i`, is refused: nothing but the panel's record changes (R162, R163). -/
def PanelRefused (i : Instr) (s : State) (a : Fin 8) (number code : Byte) (argument : Nat) (result : Status) : Prop :=
  Ends i s (((s.heard a).recorded a number code argument result).panelNote a code argument result)

/-- The rights a panel needs for a job action (Table 11-2). -/
def JobVerb.level : JobVerb → Rights
  | .hold | .release => .floor
  | .suspend | .resume | .cancel => .full

/-- Job action `v` on the job numbered `job`, asked by `w`, is carried out as `f` says, and `fin` follows. -/
def JobAction (v : JobVerb) (w : Who) (job : Half) (s : State) (fin f : State → State) : Prop :=
  match w with
  | .host => ∀ tag : Byte, tag ≠ 0 → s.takes →
      Ends (v.host tag job) s (fin (answer (jobFrame v.kind tag job) .ok [] (f s.taking)))
  | .panel => ∀ (a : Fin 8) (number : Byte), s.awaits a v.level number v.code →
      PanelDoes (v.panel (BitVec.ofNat 8 a.val) number job) s a number v.code job.toNat fin f

/-- Job action `v` on the job numbered `job`, asked by `w`, is carried out as `f` says, and `tasks` follow from it in the
same act (log 8). -/
def JobThen (v : JobVerb) (w : Who) (job : Half) (s : State) (tasks : List Task) (f : State → State) : Prop :=
  match w with
  | .host => ∀ tag : Byte, tag ≠ 0 → s.takes →
      AnswersThen (v.host tag job) s (jobFrame v.kind tag job) [] tasks (f s.taking)
  | .panel => ∀ (a : Fin 8) (number : Byte), s.awaits a v.level number v.code →
      Ends (v.panel (BitVec.ofNat 8 a.val) number job) s
        (cascade (tasks ++ [.note 0x74 ([BitVec.ofNat 8 a.val, 2, v.code] ++ be16 job.toNat ++ [0])])
          ((f (s.heard a)).recorded a number v.code job.toNat .ok))

/-- Job action `v` on the job numbered `job`, asked by `w`, is refused with this status. -/
def JobRefused (v : JobVerb) (w : Who) (job : Half) (s : State) (status : Status) : Prop :=
  match w with
  | .host => ∀ tag : Byte, tag ≠ 0 → s.takes →
      Answers (v.host tag job) s (jobFrame v.kind tag job) status [] s.taking
  | .panel => ∀ (a : Fin 8) (number : Byte), s.awaits a v.level number v.code →
      PanelRefused (v.panel (BitVec.ofNat 8 a.val) number job) s a number v.code job.toNat status

/-- Job `n` finishes as `st`: purpose discarded, unpinned, finished time, images freed with SPOOL_LOW evaluated, on the
finished list (R43, R48). -/
def State.finishes (s : State) (n : Nat) (st : JobState) (reason : JobReason) : State :=
  let u := freeImages n (s.modJob n (fun j => { j with
    purpose := none, pinned := false, queueEntry := none, finished := some s.mlc.clock }))
  (({ u with jt := { u.jt with finished := u.jt.finished ++ [n] } }).modJob n (fun j => { j with state := st })).noteJob
    n reason

/-- Job `j` is taken out of the queue it stands in: the pinned queue of its bound port, or its destination's (R60). -/
def State.unqueues (s : State) (j : Job) : State :=
  match j.pinned, j.bound with
  | true, some b => s.modPort b (fun x => { x with pinnedQ := x.pinnedQ.erase j.num })
  | _, _ => s.setQueue j.dest ((s.queue j.dest).erase j.num)

/-- Nobody takes a job that joins the queue of destination `d`: it is not ENABLED, or no member is usable (R64, R73). -/
def State.noTaker (s : State) (d : Fin 32) : Prop :=
  (s.dest d).enabled = false ∨ ∀ p ∈ (s.dest d).members, (s.port p).usable = false

/-- The run slot of port `p` alone holds job `n`. -/
abbrev State.runsAt (s : State) (p : PortNo) (n : Nat) : Prop := ∀ q, (s.port q).run = some n ↔ q = p

/-- The suspended slot of port `p` holds job `n` with this reason, and no other slot does. -/
abbrev State.suspendedAt (s : State) (p : PortNo) (n : Nat) (why : SuspReason) : Prop :=
  (∀ q, (s.port q).run ≠ some n ∧ (s.port q).inc ≠ some n) ∧ (s.port p).susp = some { job := n, reason := why }
    ∧ ∀ q, q ≠ p → ∀ u ∈ (s.port q).susp, u.job ≠ n

/-- The incoming slot of port `p` holds job `n`, and no other slot does. -/
abbrev State.incomingAt (s : State) (p : PortNo) (n : Nat) : Prop :=
  (∀ q, (s.port q).run ≠ some n ∧ ∀ u ∈ (s.port q).susp, u.job ≠ n) ∧ ∀ q, (s.port q).inc = some n ↔ q = p

/-- No slot of any port holds job `n`. -/
abbrev State.slotless (s : State) (n : Nat) : Prop :=
  ∀ q, (s.port q).run ≠ some n ∧ (s.port q).inc ≠ some n ∧ ∀ u ∈ (s.port q).susp, u.job ≠ n

/-- Nothing waits to take the run slot of port `p`, were it empty: no incoming job, no job to return, and the port is
not usable (R66, R67, R76, R81). -/
abbrev State.nobodyWaits (s : State) (p : PortNo) : Prop :=
  (s.port p).inc = none ∧ (∀ u ∈ (s.port p).susp, u.reason = .host) ∧ (s.port p).usable = false

/-- Port `p` becomes `x`, a PORT_EVENT reports it, and nothing else changes (R93). -/
def State.portBecomes (s : State) (p : PortNo) (x : Port) : State := (s.setPort p x).notePort p

/-- Data for job `j` may arrive (R20). -/
abbrev Job.open_ (j : Job) : Prop :=
  j.dataClosed = false ∧ (j.state = .spooling
    ∨ j.earlyStart = true ∧ j.state ∈ [JobState.queued, .held, .running, .starved, .draining, .suspended])

/-- Job `a` stands ahead of job `b` in queue order: RUSH before NORMAL, then higher priority, then earlier entry (R61). -/
abbrev Before (a b : Job) : Prop :=
  (a.rush = true ∧ b.rush = false)
    ∨ a.rush = b.rush ∧ (b.priority < a.priority
      ∨ a.priority = b.priority ∧ a.queueEntry.getD 0 < b.queueEntry.getD 0)

/-- A queue stands in queue order: no job is ahead of one that stands before it (R61). -/
def State.ordered (s : State) (q : List Nat) : Prop :=
  q.Pairwise (fun x y => ∀ a b, s.job? x = some a → s.job? y = some b → ¬ Before b a)

/-- Entry `e` makes a transition from `s` to `t`: it becomes `a`, the announcement list becomes `list`, one ALERT_EVENT
with this transition code is handed over, a silence ends if `raises`, and the horn and the lamps of the entry's port
are evaluated; nothing else changes (R148, R150, R151, R154, R156, R157). -/
def AlertMoves (s t : State) (e : EntryNo) (a : Alert) (list : List EntryNo) (raises : Bool) (code : Nat) : Prop :=
  t.alert e = a ∧ (∀ x, x ≠ e → t.alert x = s.alert x) ∧ t.au.announced = list
    ∧ t.notes = s.notes ++ [.notice { kind := 0x71, contents := [BitVec.ofNat 8 e.val, BitVec.ofNat 8 code,
        BitVec.ofNat 8 a.state.code, BitVec.ofNat 8 a.raiseCount] ++ be32 (a.detail.getD 0) }]
    ∧ t.au.silenced = (s.au.silenced && !raises)
    ∧ (t.au.horn = true ↔ s.cfg.escalation ≠ 0 ∧ t.au.silenced = false
        ∧ ∃ x, (t.alert x).state = .raised ∧ (t.alert x).raisedAt + s.cfg.escalation * Config.second ≤ s.base.now)
    ∧ t.mlc = s.mlc ∧ t.smm = s.smm ∧ t.jt = s.jt ∧ t.dt = s.dt ∧ t.reserved = s.reserved ∧ t.pbc = s.pbc
    ∧ t.cfg = s.cfg ∧ t.ss = s.ss ∧ t.base = s.base ∧ t.pressOut = s.pressOut ∧ t.freeCount = s.freeCount
    ∧ t.pending = s.pending
    ∧ (∀ q, portOf e ≠ some q → t.port q = s.port q)
    ∧ ∀ q, portOf e = some q → t.port q = { s.port q with
        lamps := if (s.portCfg q).lampHost then (s.port q).lamps else t.lampsNow q }

/-! ### Commands that stand for a frame -/

/-- The frame whose arrival a request command stands for (log 2). -/
def requestOf : Instr → Option Frame
  | .unknownKind kind tag payload => some { kind := kind, tag := tag, payload := payload }
  | .status tag => some { kind := 0x01, tag := tag, payload := [] }
  | .identify tag => some { kind := 0x02, tag := tag, payload := [] }
  | .clockSet tag value => some { kind := 0x03, tag := tag, payload := wordBytes value }
  | .save tag => some { kind := 0x04, tag := tag, payload := [] }
  | .restartCold tag => some { kind := 0x05, tag := tag, payload := [0] }
  | .restartWarm tag => some { kind := 0x05, tag := tag, payload := [1] }
  | .jobOpen tag account dest cls priority copies options colour media size =>
    some { kind := 0x08, tag := tag
           payload := [account, dest, cls, priority] ++ halfBytes copies ++ [options, colour, media, size] }
  | .sheetData tag job data => some { kind := 0x09, tag := tag, payload := halfBytes job ++ data }
  | .sheetEnd tag job sides offset =>
    some { kind := 0x0A, tag := tag, payload := halfBytes job ++ [sides] ++ wordBytes offset }
  | .jobClose tag job => some (jobFrame 0x0B tag job)
  | .jobQuery tag job => some (jobFrame 0x0C tag job)
  | .jobList tag selector number => some { kind := 0x0D, tag := tag, payload := [selector, number] }
  | .jobHold tag job => some (jobFrame 0x0E tag job)
  | .jobRelease tag job => some (jobFrame 0x0F tag job)
  | .jobCancel tag job => some (jobFrame 0x10 tag job)
  | .jobSuspend tag job => some (jobFrame 0x11 tag job)
  | .jobResume tag job => some (jobFrame 0x12 tag job)
  | .jobMove tag job dest => some { kind := 0x13, tag := tag, payload := halfBytes job ++ [dest] }
  | .jobForget tag job => some (jobFrame 0x14 tag job)
  | .routeSet tag dest flags count members label =>
    some { kind := 0x18, tag := tag, payload := [dest, flags, count] ++ members.toList ++ label.toList }
  | .routeMask tag mask => some { kind := 0x19, tag := tag, payload := [mask] }
  | .routeQuery tag dest => some { kind := 0x1A, tag := tag, payload := [dest] }
  | .portSet tag port window progress wake idle rate slowFloor lampMode =>
    some { kind := 0x20, tag := tag, payload := [port, window, progress, wake, idle, rate, slowFloor, lampMode] }
  | .portSetPartWide tag reserve threshold escalation zero1 zero2 =>
    some { kind := 0x20, tag := tag
           payload := [16] ++ halfBytes reserve ++ halfBytes threshold ++ [escalation, zero1, zero2] }
  | .portQuery tag port clear => some { kind := 0x21, tag := tag, payload := [port, clear] }
  | .portQueryPartWide tag clear => some { kind := 0x21, tag := tag, payload := [16, clear] }
  | .portWake tag port mode => some { kind := 0x22, tag := tag, payload := [port, mode] }
  | .portPause tag port => some { kind := 0x23, tag := tag, payload := [port] }
  | .portUnpause tag port => some { kind := 0x24, tag := tag, payload := [port] }
  | .portRecover tag port => some { kind := 0x25, tag := tag, payload := [port] }
  | .tariffSet tag item index value => some { kind := 0x28, tag := tag, payload := [item, index] ++ wordBytes value }
  | .tariffQuery tag which => some { kind := 0x29, tag := tag, payload := [which] }
  | .tariffMode tag mode => some { kind := 0x2A, tag := tag, payload := [mode] }
  | .tariffCutoverNow tag flags time => some { kind := 0x2B, tag := tag, payload := [0, flags] ++ wordBytes time }
  | .tariffCutoverAt tag flags time => some { kind := 0x2B, tag := tag, payload := [1, flags] ++ wordBytes time }
  | .tariffCutoverCancel tag flags time => some { kind := 0x2B, tag := tag, payload := [2, flags] ++ wordBytes time }
  | .accountSet tag account flags limit =>
    some { kind := 0x2C, tag := tag, payload := [account, flags] ++ wordBytes limit }
  | .accountQuery tag account => some { kind := 0x2D, tag := tag, payload := [account] }
  | .accountClose tag account => some { kind := 0x2E, tag := tag, payload := [account] }
  | .alertQuery tag selector => some { kind := 0x30, tag := tag, payload := [selector] }
  | .alertAck tag entry => some { kind := 0x31, tag := tag, payload := [entry] }
  | .hornSilence tag => some { kind := 0x32, tag := tag, payload := [] }
  | .lampMode tag port mode => some { kind := 0x33, tag := tag, payload := [port, mode] }
  | .lampSet tag port red amber green => some { kind := 0x34, tag := tag, payload := [port, red, amber, green] }
  | .panelSet tag address level fitted => some { kind := 0x38, tag := tag, payload := [address, level, fitted] }
  | .panelQuery tag address => some { kind := 0x39, tag := tag, payload := [address] }
  | .powerOn _ _ | .resetInput _ _ | .shopClockTick | .cutoverScheduleDue | .hostFrameReceived _ | .frameSent
  | .restartBegin | .saveWriteEnd _ | .hello _ _ _ _ _ _ | .taken _ _ | .out _ _ | .jam _ _ _ | .clear _
  | .state _ _ _ _ | .pressFrameDiscarded _ _ | .transferEnd _ | .hailTimerExpiry _ | .wakeTimerExpiry _
  | .idleTimerExpiry _ | .progressWatchdogExpiry _ | .attemptTimerExpiry _ | .rateWindowEnd _ | .escalationReached _
  | .poll | .pollReplyTimeout | .panelNone _ _ _ | .panelAck _ _ _ | .panelSilence _ _ _ | .panelPause _ _ _
  | .panelUnpause _ _ _ | .panelHold _ _ _ | .panelRelease _ _ _ | .panelSuspend _ _ _ | .panelResume _ _ _
  | .panelCancel _ _ _ | .pollReplyBadFrame _ _ _ _ | .panelActionBadCode _ _ _ _ => none

/-- The report that a complete frame on the press link of port `p` stands for, by kind, length and fields; `none` for
a frame that Table 1-12 does not accept from a printer (R86). -/
def reportOf (p : PortNo) (f : Frame) : Option Instr :=
  match f.kind.toNat, f.payload with
  | 0x41, [c, d, m, z, w] => if c.toNat ≤ 1 ∧ d.toNat ≤ 1 then some (.hello p c d m z w) else none
  | 0x42, [] => some (.taken p f.tag)
  | 0x43, [] => some (.out p f.tag)
  | 0x44, [l, n] => if l.toNat ≤ 15 then some (.jam p l n) else none
  | 0x45, [] => some (.clear p)
  | 0x46, [r, d, m] => if r.toNat ≤ 1 ∧ d.toNat ≤ 1 then some (.state p r d m) else none
  | _, _ => none

/-- What a receiver makes of a run of bytes: its condition afterwards, and the frames and discards on the way (R2). -/
def rxRun : Rx → List Byte → Rx × List RxEvent
  | r, [] => (r, [])
  | r, b :: bs =>
    let here := rxByte r b
    let rest := rxRun here.1 bs
    (rest.1, if here.2 = .nothing then rest.2 else here.2 :: rest.2)

/-! ### The floor -/

/-- What of a port wake control, its timers, the alert sources and the lamps do not touch: the slots and queues, the
in-flight list, what the printer declared, the wake mode, the pause set, the meters. -/
def Port.work (x : Port) : Port :=
  { run := x.run, susp := x.susp, inc := x.inc, pinnedQ := x.pinnedQ, jammed := x.jammed, caps := x.caps
    maxWindow := x.maxWindow, nextTag := x.nextTag, inFlight := x.inFlight, wakeMode := x.wakeMode
    pauseHost := x.pauseHost, pausePanel := x.pausePanel, latchedRate := x.latchedRate, meters := x.meters, rx := x.rx }

/-! ### Invariants -/

/-- The areas of the message link stay within their sizes and the shop clock within 32 bits (R2, R4, R8, R11), and
between steps no notice of an act is left over. -/
def LinkBounds (s : State) : Prop :=
  s.mlc.holding.length ≤ 4 ∧ s.mlc.notices.length ≤ 32 ∧ s.mlc.discarded ≤ 65535 ∧ s.mlc.clock ≤ 4294967295 ∧ s.notes = []

/-- Spool memory is in canonical form. -/
def SpoolCanonical (s : State) : Prop := Memory.wf s.smm.spool = true

/-- Every spool block is on the free-block list or in the chain of one image, once, and a chain covers its image's
length; image records are used once; a job has at most one BUILDING image; the images of a job are numbered from 0
without a gap (R16, R17, R18, R19). -/
def SpoolPartition (s : State) : Prop :=
  (s.smm.free ++ s.smm.images.flatMap (fun i => i.chain)).Perm (List.range (blockCount s.smm.sizeClass))
    ∧ (s.smm.images.map (fun i => i.record)).Nodup
    ∧ (∀ x ∈ s.smm.images, x.length ≤ 32768 * x.chain.length)
    ∧ (∀ x ∈ s.smm.images, ∀ y ∈ s.smm.images, x.job = y.job → x.complete = false → y.complete = false → x = y)
    ∧ ∀ n, ((s.smm.images.filter (fun i => i.job == n)).map (fun i => i.index)).Perm
        (List.range (s.smm.imageCount n))

/-- The ACTIVE sheet passes its consistency check (R122). -/
def ActiveConsistent (s : State) : Prop := s.cfg.active.check = 0

/-- What the state of an alert entry says of its condition: RAISED and ACKED have it on, QUIET and LINGER off, and only
a latched kind lingers (R148). -/
def Alert.agrees (a : Alert) (latched : Bool) : Prop :=
  match a.state with
  | .quiet => a.on = false
  | .raised => a.on = true
  | .acked => a.on = true
  | .linger => a.on = false ∧ latched = true

/-- Every entry agrees with its condition, and the announcement list holds the entries in RAISED and LINGER, once each
(R148, R150). -/
def AlertTable (s : State) : Prop :=
  (∀ e, (s.alert e).agrees (kindOf e).latched) ∧ s.au.announced.Nodup
    ∧ ∀ e, e ∈ s.au.announced ↔ (s.alert e).state = .raised ∨ (s.alert e).state = .linger

/-- The condition a source holds is the one its alert entry was last told (R111, R146, R147, R30). -/
def SourcesAgree (s : State) : Prop :=
  (∀ p k, k ≠ .spoolLow → (s.alert (entryNo p k)).on = (s.port p).conds.get k) ∧ (s.alert spoolLowEntry).on = s.smm.low

/-- The horn sounds exactly while the escalation time is not 0, it is not silenced, and some entry has spent the escalation
time in RAISED at the moment of the time base (R156). -/
def HornFollows (s : State) : Prop :=
  s.au.horn = true ↔ s.cfg.escalation ≠ 0 ∧ s.au.silenced = false
    ∧ ∃ e, (s.alert e).state = .raised ∧ (s.alert e).raisedAt + s.cfg.escalation * Config.second ≤ s.base.now

/-- The moment of the time base lies within the current second of the shop clock, and no entry entered RAISED after it
(R11, R156). -/
def TimeWithinSecond (s : State) : Prop :=
  s.base.secondAt ≤ s.base.now ∧ s.base.now ≤ s.base.secondAt + Config.second ∧ ∀ e, (s.alert e).raisedAt ≤ s.base.now

/-- At every port: the effective window is what R99 makes it, nothing is in flight unless the link is UP, and never
more than the effective window (R99, R100, R101). -/
def WindowsHold (s : State) : Prop :=
  ∀ p, (s.port p).effWindow = (s.port p).windowNow (s.portCfg p).window
    ∧ ((s.port p).link ≠ .up → (s.port p).inFlight = [])
    ∧ (s.port p).inFlight.length ≤ (s.port p).effWindow

/-- Job records and job numbers in use are distinct, and every number is 1 to 65,535 (R31, R32). -/
def JobNumbers (s : State) : Prop :=
  (s.jt.jobs.map (fun j => j.num)).Nodup ∧ (s.jt.jobs.map (fun j => j.record)).Nodup
    ∧ (∀ j ∈ s.jt.jobs, 1 ≤ j.num ∧ j.num ≤ 65535 ∧ j.record < 256) ∧ s.jt.lastNum ≤ 65535

end Sys2Proof.Machine
end

