-- ==== Sys2Proof/Certificates/Slice0/Obligations.lean ====
section
/-! DEFINITION. The statements for the provers, family by family. `Ends`, `Answers` and `AnswersSettled` (Safety.lean) say that a command completes, with its whole next state, at the end of its act: the order of notices that no rule orders is log 7, that the transmitter looks once there is log 31. -/

open Sys2Proof Sys2Proof.Machine

/-! ### The queue, the reset, the link -/

/-- A command runs from the front of the queue, and an empty queue idles (the model's own, log 1). -/
def Obligations.StepRunsFront : Prop :=
  (∀ (c : Instr) (rest : List Instr) (s : State), s.pending = c :: rest → step s = exec c { s with pending := rest })
    ∧ ∀ s : State, s.pending = [] → step s = .next s

/-- What a reset leaves, by the rules that name each item, whatever the size class and the settings in force. -/
def Obligations.BootState : Prop :=
  ∀ (size : Fin 4) (cfg : Settings), ∃ t, State.boot size cfg = t ∧ t.cfg = cfg
    ∧ t.mlc.rx = .hunting ∧ t.mlc.holding = [] ∧ t.mlc.notices = [] ∧ t.mlc.overrun = false ∧ t.mlc.tx = .idle
    ∧ t.mlc.lastReply = false ∧ t.mlc.discarded = 0 ∧ t.mlc.restart = none ∧ t.mlc.clock = 0
    ∧ t.mlc.resetSeen = true ∧ t.mlc.clockUnset = true ∧ t.smm.sizeClass = size ∧ t.smm.low = false
    ∧ t.smm.free = List.range (8192 * 2 ^ size.val) ∧ t.smm.images = []
    ∧ t.jt.jobs = [] ∧ t.jt.lastNum = 0 ∧ t.jt.finished = [] ∧ (∀ d, t.queue d = []) ∧ t.dt.routeMask = none
    ∧ (∀ p, (t.port p).run = none ∧ (t.port p).susp = none ∧ (t.port p).inc = none ∧ (t.port p).pinnedQ = []
        ∧ (t.port p).link = .down ∧ (t.port p).ready = false ∧ (t.port p).jammed = false
        ∧ (t.port p).doorOpen = false ∧ (t.port p).mediaEmpty = 0 ∧ (t.port p).caps = none
        ∧ (t.port p).maxWindow = none ∧ (t.port p).nextTag = 0 ∧ (t.port p).inFlight = []
        ∧ (t.port p).wakeMode = .auto ∧ (t.port p).pauseHost = false ∧ (t.port p).pausePanel = false
        ∧ (t.port p).forceOff = false ∧ (t.port p).effWindow = 0 ∧ (t.port p).transfer = []
        ∧ (t.port p).wakeTimer = none ∧ (t.port p).hailTimer = false ∧ (t.port p).idleTimer = none
        ∧ (t.port p).watchdog = none ∧ (t.port p).attempt = none ∧ (t.port p).rateCount = 0
        ∧ (t.port p).latchedRate = 0 ∧ (t.port p).busy = false ∧ (t.port p).rx = .hunting
        ∧ (t.port p).lamps = { red := .off, amber := .off, green := .off }
        ∧ (t.port p).conds = { jam := false, stall := false, linkLost := false, wakeFail := false, mediaOut := false
                               slow := false, door := false }
        ∧ (t.port p).meters = { sheets := 0, impressions := 0, spoiled := 0, doubtful := 0 })
    ∧ (∀ a, t.reservation a = { mills := 0, impressions := 0 })
    ∧ (∀ e, (t.alert e).on = false ∧ (t.alert e).state = .quiet ∧ (t.alert e).raiseTime = 0
        ∧ (t.alert e).raiseCount = 0 ∧ (t.alert e).detail = none ∧ (t.alert e).ackedBy = none)
    ∧ t.au.announced = [] ∧ t.au.horn = false
    ∧ t.au.silenced = false ∧ (∀ a, (t.panel a).present = false ∧ (t.panel a).misses = 0 ∧ (t.panel a).lastReply = none
        ∧ (t.panel a).lastAction = none ∧ (t.panel a).polledAt = none)
    ∧ t.pbc.awaiting = none ∧ t.ss.saving = none ∧ t.base = {}

/-- A frame on the link (R1): the sync byte, the length, the kind, the tag, the payload, the check, L + 7 bytes in all. -/
def Obligations.FrameLayout : Prop :=
  ∀ f : Frame, f.payload.length ≤ 1040 →
    (frameBytes f).length = f.payload.length + 7 ∧ (frameBytes f).head? = some 0xA6
      ∧ halfAt (frameBytes f) 1 = f.payload.length ∧ (frameBytes f).getD 3 0 = f.kind
      ∧ (frameBytes f).getD 4 0 = f.tag ∧ ((frameBytes f).drop 5).take f.payload.length = f.payload
      ∧ halfAt (frameBytes f) (5 + f.payload.length)
          = (crc16 (((frameBytes f).drop 1).take (f.payload.length + 4))).toNat

/-- The receiver of R2: bytes ahead of a sync byte are skipped, a whole frame is found, a wrong check or a length above
1,040 is a discard, and after each of them the receiver is HUNTING again. A discard on the host link is counted, and
nothing else happens. -/
def Obligations.ReceiverFindsFrames : Prop :=
  ∀ skipped : List Byte, 0xA6 ∉ skipped →
    rxRun .hunting skipped = (.hunting, [])
      ∧ (∀ f : Frame, f.payload.length ≤ 1040 →
          rxRun .hunting (skipped ++ frameBytes f) = (.hunting, [.frame f]))
      ∧ (∀ (f : Frame) (check : Nat), f.payload.length ≤ 1040 → check < 65536 → check ≠ (crc16 (frameBody f)).toNat →
          rxRun .hunting (skipped ++ 0xA6 :: (frameBody f ++ be16 check)) = (.hunting, [.discard]))
      ∧ (∀ hi lo : Byte, 1040 < hi.toNat * 256 + lo.toNat →
          rxRun .hunting (skipped ++ [0xA6, hi, lo]) = (.hunting, [.discard]))
      ∧ ∀ (bytes : List Byte) (s : State), s.mlc.rx = .hunting → rxRun .hunting bytes = (.hunting, [.discard]) →
          exec (.hostFrameReceived bytes) s
            = .next { openAct s with mlc := { s.mlc with discarded := min 65535 (s.mlc.discarded + 1) } }

/-- A request row of the table is what its frame does as it arrives byte by byte (R1, R2, R5, log 2): no bit of any
operand is lost on the way from the link to the block that owns the request. -/
def Obligations.HostFrameIsRequest : Prop :=
  ∀ (i : Instr) (f : Frame) (s : State), i.wf = true → requestOf i = some f → s.mlc.rx = .hunting →
    exec (.hostFrameReceived (frameBytes f)) s = exec i s

/-- A report row of the table is what its frame does as it arrives on the press link (R86), and a frame whose kind,
length or fields Table 1-12 does not accept from a printer has no effect at all. Nor has a frame with a wrong check or a
length above 1,040, which is counted nowhere, nor have bytes that hold no sync byte; a discarded frame leaves the
receiver HUNTING (R2, R86). -/
def Obligations.PressFrameIsReport : Prop :=
  ∀ (p : PortNo) (f : Frame) (s : State), (s.port p).rx = .hunting →
    let ignored := fun (bytes : List Byte) => exec (.pressFrameDiscarded p bytes) s = .next (openAct s)
    (f.payload.length ≤ 1040 →
      (∀ i, reportOf p f = some i → exec (.pressFrameDiscarded p (frameBytes f)) s = exec i s)
      ∧ (reportOf p f = none → Ends (.pressFrameDiscarded p (frameBytes f)) s (openAct s)))
    ∧ ∀ skipped : List Byte, 0xA6 ∉ skipped →
      ignored skipped
      ∧ (∀ check : Nat, f.payload.length ≤ 1040 → check < 65536 → check ≠ (crc16 (frameBody f)).toNat →
          ignored (skipped ++ 0xA6 :: (frameBody f ++ be16 check)))
      ∧ ∀ hi lo : Byte, 1040 < hi.toNat * 256 + lo.toNat → ignored (skipped ++ [0xA6, hi, lo])

/-- A complete frame is a request, whatever its kind byte holds: with fewer than 4 requests in the holding area it is
admitted at its tail, with 4 it is discarded and counted, and nothing else happens (R3). -/
def Obligations.AdmissionOrDiscard : Prop :=
  ∀ (f : Frame) (s : State), f.payload.length ≤ 1040 → s.mlc.rx = .hunting →
    (s.mlc.holding.length < 4 → s.mlc.restart = none → ∃ t, exec (.hostFrameReceived (frameBytes f)) s = .next t
        ∧ ∃ reply, t.replies = s.replies ++ [(f, some reply)])
      ∧ (s.mlc.holding.length < 4 → s.mlc.restart ≠ none → Ends (.hostFrameReceived (frameBytes f)) s
          { openAct s with mlc := { s.mlc with holding := s.mlc.holding ++ [{ request := f, stage := .admitted }] } })
      ∧ (4 ≤ s.mlc.holding.length → Ends (.hostFrameReceived (frameBytes f)) s
          { openAct s with mlc := { s.mlc with discarded := min 65535 (s.mlc.discarded + 1) } })

/-- Every request that is taken gets one reply, of the request's kind with the top bit set and its tag, and one that is
refused changes nothing but the route mask (R5, R6). The MLC's own checks come first, in their order: tag, kind,
length (R5, Table 1-3). -/
def Obligations.RequestsAnswered : Prop :=
  (∀ (i : Instr) (f : Frame) (s : State), i.wf = true → requestOf i = some f → s.takes →
    ∃ t status contents, exec i s = .next t
      ∧ t.replies = s.replies ++ [(f, some { kind := f.kind ||| 0x80, tag := f.tag
                                             payload := BitVec.ofNat 8 status.code :: contents })]
      ∧ (status ≠ .ok → Answers i s f status [] s.taking))
  ∧ ∀ (kind tag : Byte) (payload : List Byte) (s : State), payload.length ≤ 1040 → s.takes →
    let i := Instr.unknownKind kind tag payload
    let f : Frame := { kind := kind, tag := tag, payload := payload }
    (tag = 0 → Answers i s f .badTag [] s.taking)
      ∧ (tag ≠ 0 → kindLengths kind.toNat = none → Answers i s f .unknownKind [] s.taking)
      ∧ ∀ lo hi, tag ≠ 0 → kindLengths kind.toNat = some (lo, hi) → payload.length < lo ∨ hi < payload.length →
          Answers i s f .badLength [] s.taking

/-- While a save is in progress every request that changes a stored setting, SAVE and both RESTARTs are refused
SAVING, whatever else is wrong with them (R169). -/
def Obligations.SavingRefusesSettings : Prop :=
  ∀ (i : Instr) (f : Frame) (s : State), requestOf i = some f → f.tag ≠ 0 → s.takes → s.ss.saving ≠ none →
    (match i with
      | .save _ | .restartCold _ | .restartWarm _ | .routeSet _ _ _ _ _ _ | .portSet _ _ _ _ _ _ _ _ _
      | .portSetPartWide _ _ _ _ _ _ | .tariffSet _ _ _ _ | .tariffMode _ _ | .tariffCutoverNow _ _ _
      | .tariffCutoverAt _ _ _ | .tariffCutoverCancel _ _ _ | .accountSet _ _ _ _ | .lampMode _ _ _
      | .panelSet _ _ _ _ => True
      | _ => False) →
    Answers i s f .saving [] s.taking

/-- The transmitter's choice of the next frame (R7, R9), the notice queue's law (R8), and the end of a frame: a reply's
entry leaves the holding area (R4, R7), also while a RESTART waits for its own reply to go out (R10). -/
def Obligations.TransmitterTurns : Prop :=
  (∀ (s : State) (f : Frame) (b : Bool), s.mlc.tx = .sending f b → pump s = s)
    ∧ (∀ (s : State) (n : Notice) (rest : List Notice), s.mlc.tx = .idle → s.mlc.notices = n :: rest →
        (s.mlc.lastReply = true ∨ ∀ e ∈ s.mlc.holding.head?, e.stage ≠ .replyReady) →
        pump s = { s with mlc := { s.mlc with
          notices := rest, overrun := false
          tx := .sending ⟨n.kind, 0, (if s.mlc.overrun then 1 else 0) :: n.contents⟩ false } })
    ∧ (∀ (s : State) (e : Entry) (rest : List Entry) (f : Frame), s.mlc.tx = .idle → s.mlc.holding = e :: rest →
        e.stage = .replyReady → e.reply = some f → s.mlc.lastReply = false ∨ s.mlc.notices = [] →
        pump s = { s with mlc := { s.mlc with
          holding := { e with stage := .sending } :: rest, tx := .sending f true } })
    ∧ (∀ s : State, s.mlc.tx = .idle → s.mlc.notices = [] → (∀ e ∈ s.mlc.holding.head?, e.stage ≠ .replyReady) →
        pump s = s)
    ∧ (∀ (s : State) (f : Frame) (isReply : Bool), s.mlc.tx = .sending f isReply →
        s.mlc.restart = none ∨ isReply = false ∨ f.kind ≠ 0x85 ∨ f.payload ≠ [0] →
        Ends .frameSent s { openAct s with mlc := { s.mlc with
          tx := .idle, lastReply := isReply
          holding := if isReply then s.mlc.holding.tail else s.mlc.holding } })
    ∧ ∀ (n : Notice) (s : State), pushNotice n s = { s with mlc := { s.mlc with
        notices := (if s.mlc.notices.length < 32 then s.mlc.notices else s.mlc.notices.tail) ++ [n]
        overrun := s.mlc.overrun || decide (32 ≤ s.mlc.notices.length) } }

/-- The notices of an act: PORT_EVENTs ahead of every other, each JOB_EVENT and PORT_EVENT with the values held at the
end of the act (R33, R93). The rest keep the order they were handed over in (log 7); that a PORT_EVENT goes ahead of the
"present" notice of R163 too is log 32. -/
def Obligations.ActNotices : Prop :=
  ∀ s : State, s.mlc.notices.length + s.notes.length ≤ 32 →
    (flushNotes s).notes = [] ∧ (flushNotes s).mlc.overrun = s.mlc.overrun
      ∧ (flushNotes s).mlc.notices = s.mlc.notices
        ++ s.notes.filterMap (fun n => match n with
            | .port p => some { kind := 0x72, contents := [BitVec.ofNat 8 p.val,
                BitVec.ofNat 8 (s.port p).link.code, BitVec.ofNat 8 (s.port p).conditionByte, (s.port p).mediaEmpty] }
            | _ => none)
        ++ s.notes.filterMap (fun n => match n with
            | .job num reason => (s.job? num).map (fun j => { kind := 0x70, contents := be16 num
                ++ [BitVec.ofNat 8 j.state.code, BitVec.ofNat 8 reason.code] })
            | .port _ => none
            | .notice x => some x)

/-- A RESTART is answered and only recorded; it takes effect when the last byte of its reply has gone (R10, R171). COLD:
everything is as a reset leaves it, the settings come from the image or, when it fails its check, are the factory
values, and the size class stays (R15, R167); the clock's first second begins with it (log 27). WARM: the settings and
account meters, the port meters, the clock with the second it is in and CLOCK_UNSET, DEFAULTS_LOADED and the size class
stay, and everything else is as a reset leaves it (R11, R13). No
PORT_EVENT goes out for a link that this takes to DOWN, which is the model's choice (log 28). SPOOL_LOW is then evaluated
(R30) and the act ends (log 6); with a low-spool threshold not above the block count nothing more happens. RESTART_BEGIN
and FRAME_SENT are then one event (log 13). -/
def Obligations.Restarts : Prop :=
  (∀ (tag : Byte) (s : State), tag ≠ 0 → s.takes → s.ss.saving = none →
    Answers (.restartCold tag) s ⟨0x05, tag, [0]⟩ .ok [] { s.taking with mlc := { s.mlc with restart := some .cold } }
      ∧ Answers (.restartWarm tag) s ⟨0x05, tag, [1]⟩ .ok []
          { s.taking with mlc := { s.mlc with restart := some .warm } })
  ∧ ∀ (s : State) (tag : Byte), s.mlc.tx = .sending ⟨0x85, tag, [0]⟩ true →
    (∀ (g : Settings) (d : Bool), s.mlc.restart = some .cold → loadImage s.ss.stored = (g, d) →
      let t := { State.boot s.smm.sizeClass g with
        mlc := { defaultsLoaded := d }, ss := { stored := s.ss.stored, saving := none }
        base := { acts := s.base.acts + 1 }, freeCount := s.freeCount, pending := s.pending }
      Ends .restartBegin s (settle (evalSpoolLow t))
        ∧ (g.lowSpool ≤ blockCount s.smm.sizeClass → exec .restartBegin s = .next t))
    ∧ (s.mlc.restart = some .warm →
      let t := { State.boot s.smm.sizeClass s.cfg with
        mlc := { clock := s.mlc.clock, clockUnset := s.mlc.clockUnset, defaultsLoaded := s.mlc.defaultsLoaded }
        ports := s.ports.map (fun x => { meters := x.meters }), ss := { stored := s.ss.stored, saving := none }
        base := (openAct s).base, freeCount := s.freeCount, pending := s.pending }
      Ends .restartBegin s (settle (evalSpoolLow t))
        ∧ (s.cfg.lowSpool ≤ blockCount s.smm.sizeClass → exec .restartBegin s = .next t))
    ∧ (s.mlc.restart ≠ none → exec .frameSent s = exec .restartBegin s)

/-- Power-on and the reset input read the strap and load the image; a save they cut off after a byte of the image had
changed leaves contents that fail their check (R15, R167, R170). The load takes an image whose stored check agrees with
the one computed over its contents, whose items are all in range and whose ACTIVE sheet is consistent, and otherwise the
factory values (R166, R167). The check is computed by a free function (log 30); whether a byte had changed is an operand
(log 15). No PORT_EVENT goes out for a link that the reset takes to DOWN, which is the model's choice (log 28). The
clock's first second begins with the reset (log 27). SPOOL_LOW is then evaluated (R30) and the act ends (log 6). -/
def Obligations.PowerOnLoads : Prop :=
  (∀ g : Settings, let m : SettingsImage := { contents := g, check := Config.imageCheck g }
    (g.valid = true → loadImage (some m) = (g, false) ∧ g.active.check = 0)
    ∧ (g.valid = false → loadImage (some m) = (Settings.factory, true)))
  ∧ (∀ m : SettingsImage, m.check ≠ Config.imageCheck m.contents → loadImage (some m) = (Settings.factory, true))
  ∧ loadImage none = (Settings.factory, true)
  ∧ ∀ (strap : BitVec 2) (touched : Bool) (s : State) (g : Settings) (d : Bool),
    let stored := if s.ss.saving ≠ none ∧ touched = true then none else s.ss.stored
    let size : Fin 4 := strap.toFin
    loadImage stored = (g, d) →
    let t := { State.boot size g with
      mlc := { defaultsLoaded := d }, ss := { stored := stored, saving := none }
      base := { acts := s.base.acts + 1 }, freeCount := s.freeCount, pending := s.pending }
    Ends (.powerOn strap touched) s (settle (evalSpoolLow t))
      ∧ (g.lowSpool ≤ blockCount size → exec (.powerOn strap touched) s = .next t)
      ∧ exec (.resetInput strap touched) s = exec (.powerOn strap touched) s

/-- SAVE captures the settings and meters as they stand; the end of the write stores the capture with the check computed
over it (R166; a free function, log 30) and reports "saved", or reports "failed" (R168). What a failed write leaves
stored is not stated (log 14). -/
def Obligations.SaveAndItsEnd : Prop :=
  (∀ (tag : Byte) (s : State), tag ≠ 0 → s.takes → s.ss.saving = none →
      Answers (.save tag) s ⟨0x04, tag, []⟩ .ok [] { s.taking with ss := { s.ss with saving := some s.cfg } })
    ∧ (∀ (s : State) (g : Settings), s.ss.saving = some g →
        Ends (.saveWriteEnd true) s { (openAct s).note 0x75 [0] with
          ss := { stored := some { contents := g, check := Config.imageCheck g }, saving := none }
          mlc := { s.mlc with defaultsLoaded := false } })
    ∧ ∀ (s : State) (g : Settings), s.ss.saving = some g →
        ∃ left, Ends (.saveWriteEnd false) s { (openAct s).note 0x75 [1] with
          ss := { stored := left, saving := none }, freeCount := s.freeCount + 1 }

/-! ### The message link's own requests and the clock -/

/-- STATUS reports the flags, the counts and the clock in the 33 bytes of Table 1-9, and clears RESET_SEEN alone
(R14). IDENTIFY reports 1640, revision A, the size class, 16 ports and 8 panels, and changes nothing (R15). CLOCK_SET
sets the clock, clears CLOCK_UNSET and restarts the current second, the time base going on as it was (R11, R12). -/
def Obligations.LinkRequests : Prop :=
  ∀ (tag : Byte) (s : State), tag ≠ 0 → s.takes →
    let contents := [BitVec.ofNat 8 ((if s.mlc.resetSeen then 1 else 0) + (if s.mlc.clockUnset then 2 else 0)
          + (if s.mlc.defaultsLoaded then 4 else 0))]
        ++ be16 s.mlc.discarded ++ be32 s.smm.free.length
        ++ [JobState.spooling, .queued, .held, .running, .starved, .draining, .suspended, .cancelling, .done,
            .cancelled].flatMap (fun st => be16 (s.jt.jobs.countP (fun j => j.state == st)))
        ++ be8 s.au.announced.length ++ be32 s.mlc.clock
    contents.length = 32
    ∧ Answers (.status tag) s ⟨0x01, tag, []⟩ .ok contents { s.taking with mlc := { s.mlc with resetSeen := false } }
    ∧ Answers (.identify tag) s ⟨0x02, tag, []⟩ .ok
        [0x06, 0x68, 0x41, BitVec.ofNat 8 s.smm.sizeClass.val, 16, 8] s.taking
    ∧ ∀ value : Word, Answers (.clockSet tag value) s ⟨0x03, tag, be32 value.toNat⟩ .ok []
        { s.taking with mlc := { s.mlc with clock := value.toNat, clockUnset := false }
                        base := { s.taking.base with secondAt := s.taking.base.now } }

/-- The clock and the time base. Before a command some time passes, how much is not stated (log 10), and it changes
nothing else; it does not pass the end of the current second, nor the moment at which an entry reaches the escalation
time. The end of a second, with no schedule falling due: the clock goes up by 1, wrapping with CLOCK_UNSET set (R11), one
second of the time base after its last increment or CLOCK_SET (R12), and the horn follows (R156); nothing else changes. -/
def Obligations.TickCounts : Prop :=
  ∀ s : State, let next := s.base.secondAt + Config.second
    let reaches := fun (e : EntryNo) => (s.alert e).raisedAt + s.cfg.escalation * Config.second
    (∃ now, openAct s = { s with base := { now := now, secondAt := s.base.secondAt, acts := s.base.acts + 1 }, pressOut := [] }
      ∧ s.base.now ≤ now ∧ (s.base.now ≤ next → now ≤ next)
      ∧ ∀ e, (s.alert e).state = .raised → s.cfg.escalation ≠ 0 → s.base.now < reaches e → now < reaches e)
    ∧ ((∀ x ∈ s.cfg.schedule, s.nextClock < x.time) →
      (∃ horn, (horn = true ↔ s.cfg.escalation ≠ 0 ∧ s.au.silenced = false
          ∧ ∃ e, (s.alert e).state = .raised ∧ reaches e ≤ next)
        ∧ Ends .shopClockTick s { openAct s with
          mlc := { s.mlc with
            clock := if s.mlc.clock < 4294967295 then s.mlc.clock + 1 else 0
            clockUnset := s.mlc.clockUnset || decide (4294967295 ≤ s.mlc.clock) }
          au := { s.au with horn := horn }
          base := { now := next, secondAt := next, acts := s.base.acts + 1 } })
      ∧ Ends .cutoverScheduleDue s (openAct s))

/-! ### Jobs -/

/-- Number issue (R32): the number after the last one issued, 65,535 being followed by 1, that no record holds; the
numbers passed over are all held. -/
def Obligations.JobNumberIsNext : Prop :=
  ∀ s : State, s.jt.jobs.length ≤ 255 → s.jt.lastNum ≤ 65535 →
    ∃ k ≤ 255, s.nextJobNumber = (s.jt.lastNum + k) % 65535 + 1
      ∧ (∀ j ∈ s.jt.jobs, j.num ≠ s.nextJobNumber)
      ∧ ∀ i < k, ∃ j ∈ s.jt.jobs, j.num = (s.jt.lastNum + i) % 65535 + 1

/-- JOB_OPEN (R34): its checks in their order. An accepted one fills the unused record with the lowest number, and its
reply carries the job number (R35); with no record free it first reclaims the head of the finished list, and with none
finished it is refused (R34, R51). -/
def Obligations.JobOpenCreates : Prop :=
  ∀ (tag account dest cls priority : Byte) (copies : Half) (options colour media size : Byte) (s : State),
    tag ≠ 0 → s.takes →
    let i := Instr.jobOpen tag account dest cls priority copies options colour media size
    let payload := [account, dest, cls, priority] ++ be16 copies.toNat ++ [options, colour, media, size]
    let f : Frame := { kind := 0x08, tag := tag, payload := payload }
    let refused := fun (st : Status) => Answers i s f st [] s.taking
    let bad := 127 < account.toNat ∨ 31 < dest.toNat ∨ 1 < cls.toNat ∨ copies = 0 ∨ 999 < copies.toNat
      ∨ 7 < options.toNat ∨ 1 < colour.toNat ∨ 7 < media.toNat ∨ 7 < size.toNat
    (bad → refused .badField)
    ∧ ∀ (a : Fin 128) (d : Fin 32) (c : Colour) (m z : Fin 8), account.toNat = a.val → dest.toNat = d.val →
      colour.toNat = c.code → media.toNat = m.val → size.toNat = z.val → ¬ bad →
      let filled := fun (t : State) (r : Nat) =>
        ({ record := r, num := t.nextJobNumber, account := a, dest := d, rush := cls == 1
           priority := min 7 priority.toNat, copies := copies.toNat, collate := options.toNat.testBit 0
           earlyStart := options.toNat.testBit 1, duplex := options.toNat.testBit 2, colour := c, media := m, size := z
           state := .spooling, dataClosed := false, complete := 0, total := none, cursor := 0, delivered := 0
           inFlight := 0, spoiled := 0, doubtful := 0, impressions := 0, charged := 0, holds := {}, bound := none
           pinned := false, purpose := none, opened := t.mlc.clock, firstDispatch := none, finished := none
           queueEntry := none } : Job)
      let opens := fun (t : State) (r : Nat) => Answers i s f .ok (be16 t.nextJobNumber)
        { t with jt := { t.jt with lastNum := t.nextJobNumber, jobs := insertJob (filled t r) t.jt.jobs } }
      ((s.account a).isOpen = false → refused .noAccount)
      ∧ ((s.account a).isOpen = true → (s.dest d).enabled = false → refused .destDisabled)
      ∧ ((s.account a).isOpen = true → (s.dest d).enabled = true →
        (∀ r < 256, (∀ j ∈ s.jt.jobs, j.record ≠ r) → (∀ k < r, ∃ j ∈ s.jt.jobs, j.record = k) → opens s.taking r)
        ∧ ((∀ k < 256, ∃ j ∈ s.jt.jobs, j.record = k) → JobNumbers s → ∀ n rest old, s.jt.finished = n :: rest →
            s.job? n = some old → opens { s.taking with jt := { s.jt with
              jobs := s.jt.jobs.filter (fun j => j.num != n), finished := rest } } old.record)
        ∧ ((∀ k < 256, ∃ j ∈ s.jt.jobs, j.record = k) → s.jt.finished = [] → refused .jobTableFull))

/-- JOB_CLOSE (R37): its checks, the total, and what follows: a job that finds every sheet delivered is DONE (R43),
wherever it stands; otherwise SPOOLING goes to HELD or QUEUED (R36), STARVED to RUNNING (R41), and any other state is
kept. A queued job is offered, a run slot that empties is filled by a pull, a run job may be dispatched, all in the same
act. -/
def Obligations.JobCloseCloses : Prop :=
  ∀ (tag : Byte) (job : Half) (s : State), tag ≠ 0 → s.takes →
    let n := job.toNat
    let i := Instr.jobClose tag job
    let f := jobFrame 0x0B tag job
    (s.job? n = none → Answers i s f .noJob [] s.taking)
    ∧ ∀ j, s.job? n = some j →
      let shut := fun (j : Job) (st : JobState) =>
        { j with dataClosed := true, total := some (j.copies * j.complete), state := st }
      let ok := AnswersThen i s f (be32 (j.copies * j.complete))
      let t := s.taking.modJob n (fun j => shut j j.state)
      (j.state ∈ [JobState.cancelling, .done, .cancelled] → Answers i s f .wrongState [] s.taking)
      ∧ (j.state ∉ [JobState.cancelling, .done, .cancelled] →
        (j.dataClosed = true → Answers i s f .already [] s.taking)
        ∧ (j.dataClosed = false →
          ((∃ x ∈ s.smm.images, x.job = n ∧ x.complete = false) → Answers i s f .imageOpen [] s.taking)
          ∧ ((∀ x ∈ s.smm.images, x.job = n → x.complete = true) →
            (j.complete = 0 → Answers i s f .emptyJob [] s.taking)
            ∧ (j.complete ≠ 0 → j.delivered ≠ j.copies * j.complete →
              (j.state ∈ [JobState.queued, .held, .draining, .suspended] → ok [.settle] t)
              ∧ (j.state = .spooling → s.slotless n → j.holds.isEmpty = false →
                ok [.settle] ((s.taking.modJob n (fun j => shut j .held)).noteJob n .data))
              ∧ (j.state = .spooling → s.slotless n → j.holds.isEmpty = true → j.pinned = false ∨ j.bound = none →
                let u := t.modJob n (fun j => { j with queueEntry := some s.mlc.clock })
                let q := placeInQueue u { shut j .spooling with queueEntry := some s.mlc.clock } (s.queue j.dest)
                ok [.offer n, .settle] (((u.setQueue j.dest q).modJob n (fun j => { j with state := .queued })).noteJob
                  n .data))
              ∧ (∀ p, j.state = .starved → s.runsAt p n →
                ok [.dispatch p, .settle] ((s.taking.modJob n (fun j => shut j .running)).noteJob n .data))
              ∧ ∀ p, j.state = .running → s.runsAt p n → ok [.dispatch p, .settle] t)
            ∧ (j.complete ≠ 0 → j.delivered = j.copies * j.complete →
              (j.state = .held ∨ j.state = .spooling → s.slotless n → ok [.settle] (t.finishes n .done .data))
              ∧ (j.state = .queued → s.slotless n → ok [.settle] ((t.unqueues j).finishes n .done .data))
              ∧ (∀ p why, j.state = .suspended → s.suspendedAt p n why → ok [.pull p, .settle]
                  ((t.modPort p (fun x => { x with susp := none })).finishes n .done .data))
              ∧ (∀ p, j.state = .suspended → s.incomingAt p n → ok [.pull p, .settle]
                  ((t.modPort p (fun x => { x with inc := none })).finishes n .done .data))
              ∧ ∀ p, j.state ∈ [JobState.running, .starved, .draining] → s.runsAt p n → ok [.pull p, .settle]
                  ((evalMedia p (t.modPort p (fun x => { x with run := none, busy := false }))).finishes n .done
                    .data)))))

/-- JOB_HOLD and the panel HOLD (R44, R82, R84): the checks and, state by state, what follows: a QUEUED job leaves its
queue, a job in a run slot drains for HOLD, a suspended one leaves its slot and the port pulls. -/
def Obligations.HoldActs : Prop :=
  ∀ (w : Who) (job : Half) (s : State), let n := job.toNat
    (s.job? n = none → JobRefused .hold w job s .noJob)
    ∧ ∀ j, s.job? n = some j →
      let held := fun (t : State) =>
        (t.modJob n (fun j => { j with holds := j.holds.add w, state := .held })).noteJob n w.reason
      (j.state ∈ [JobState.cancelling, .done, .cancelled] → JobRefused .hold w job s .wrongState)
      ∧ (j.state ∉ [JobState.cancelling, .done, .cancelled] → j.holds.has w = true → JobRefused .hold w job s .already)
      ∧ (j.holds.has w = false →
        (j.state ∈ [JobState.spooling, .held, .draining] → JobAction .hold w job s settle
          (fun t => t.modJob n (fun j => { j with holds := j.holds.add w })))
        ∧ (j.state = .queued → s.slotless n → JobAction .hold w job s settle
          (fun t => (held (t.unqueues j)).modJob n (fun j => { j with queueEntry := none })))
        ∧ (∀ p, j.state = .running ∨ j.state = .starved → s.runsAt p n →
          JobThen .hold w job s [.runEnd p .start, .settle] (fun t => ((t.modPort p (fun x => { x with
            busy := false })).modJob n (fun j => { j with
              holds := j.holds.add w, purpose := some .hold, state := .draining })).noteJob n w.reason))
        ∧ (∀ p why, j.state = .suspended → s.suspendedAt p n why → JobThen .hold w job s [.pull p, .settle]
          (fun t => (held (t.modPort p (fun x => { x with susp := none }))).modJob n
            (fun j => { j with pinned := true })))
        ∧ ∀ p, j.state = .suspended → s.incomingAt p n → JobThen .hold w job s [.pull p, .settle]
          (fun t => held (t.modPort p (fun x => { x with inc := none }))))

/-- JOB_RELEASE and the panel RELEASE (R45): the checks; the reasons removed; a HELD job left with none is queued, at
its bound port, which pulls, if it is pinned, else in its destination's queue, which offers it. -/
def Obligations.ReleaseActs : Prop :=
  ∀ (w : Who) (job : Half) (s : State), let n := job.toNat
    (s.job? n = none → JobRefused .release w job s .noJob)
    ∧ ∀ j, s.job? n = some j →
      let freed := fun (j : Job) => { j with holds := j.holds.release w, queueEntry := some s.mlc.clock }
      (j.state ∈ [JobState.cancelling, .done, .cancelled] → JobRefused .release w job s .wrongState)
      ∧ (j.state ∉ [JobState.cancelling, .done, .cancelled] → j.holds.releasable w = false →
        JobRefused .release w job s .already)
      ∧ (j.state ∉ [JobState.cancelling, .done, .cancelled] → j.holds.releasable w = true →
        (j.state ≠ .held ∨ (j.holds.release w).isEmpty = false → JobAction .release w job s id
          (fun t => t.modJob n (fun j => { j with holds := j.holds.release w })))
        ∧ (j.state = .held → (j.holds.release w).isEmpty = true → s.slotless n →
          (∀ b, j.pinned = true → j.bound = some b → JobThen .release w job s [.pull b, .settle] (fun t =>
              ((t.modPort b (fun x => { x with pinnedQ := x.pinnedQ ++ [n] })).modJob n
                (fun j => { freed j with state := .queued })).noteJob n w.reason))
          ∧ (j.pinned = false ∨ j.bound = none → JobThen .release w job s [.offer n, .settle] (fun t =>
              let u := t.modJob n freed
              ((u.setQueue j.dest (placeInQueue u (freed j) (u.queue j.dest))).modJob n
                (fun j => { j with state := .queued })).noteJob n w.reason))))

/-- JOB_CANCEL and the panel CANCEL (R48, R49): the checks; CANCELLED at once outside a run slot, with a pull where a
slot of the port empties; CANCELLING in a run slot, which ends in the same act with nothing in flight. -/
def Obligations.CancelActs : Prop :=
  ∀ (w : Who) (job : Half) (s : State), let n := job.toNat
    (s.job? n = none → JobRefused .cancel w job s .noJob)
    ∧ ∀ j, s.job? n = some j →
      (j.state ∈ [JobState.cancelling, .done, .cancelled] → JobRefused .cancel w job s .already)
      ∧ (j.state = .spooling ∨ j.state = .held → s.slotless n → JobAction .cancel w job s settle
          (fun t => t.finishes n .cancelled w.reason))
      ∧ (j.state = .queued → s.slotless n → JobAction .cancel w job s settle
          (fun t => (t.unqueues j).finishes n .cancelled w.reason))
      ∧ (∀ p why, j.state = .suspended → s.suspendedAt p n why → JobThen .cancel w job s [.pull p, .settle]
          (fun t => (t.modPort p (fun x => { x with susp := none })).finishes n .cancelled w.reason))
      ∧ (∀ p, j.state = .suspended → s.incomingAt p n → JobThen .cancel w job s [.pull p, .settle]
          (fun t => (t.modPort p (fun x => { x with inc := none })).finishes n .cancelled w.reason))
      ∧ ∀ p, j.state ∈ [JobState.running, .starved, .draining] → s.runsAt p n →
          JobThen .cancel w job s [.runEnd p .start, .settle] (fun t => ((t.modPort p (fun x => { x with
            busy := false })).modJob n (fun j => { j with purpose := none, state := .cancelling })).noteJob n w.reason)

/-- JOB_SUSPEND and the panel SUSPEND (R77, R78): the checks, and the drain for SUSPEND_HOST, which ends in the same act
with nothing in flight (R79). -/
def Obligations.SuspendActs : Prop :=
  ∀ (w : Who) (job : Half) (s : State), let n := job.toNat
    (s.job? n = none → JobRefused .suspend w job s .noJob)
    ∧ ∀ j, s.job? n = some j →
      (j.state ≠ .running → j.state ≠ .starved → JobRefused .suspend w job s .wrongState)
      ∧ ∀ p, j.state = .running ∨ j.state = .starved → s.runsAt p n →
        ((s.port p).susp ≠ none → JobRefused .suspend w job s .depth)
        ∧ ((s.port p).susp = none → JobThen .suspend w job s [.runEnd p .start, .settle] (fun t =>
            ((t.modPort p (fun x => { x with busy := false })).modJob n
              (fun j => { j with purpose := some .suspendHost, state := .draining })).noteJob n w.reason))

/-- JOB_RESUME and the panel RESUME (R80, R81): the checks; the reason becomes RETURN, and the port pulls, so that with
an empty run slot the job returns in the same act. The reason code of that return is the model's reading (log 25). -/
def Obligations.ResumeActs : Prop :=
  ∀ (w : Who) (job : Half) (s : State), let n := job.toNat
    (s.job? n = none → JobRefused .resume w job s .noJob)
    ∧ ∀ j, s.job? n = some j →
      ((∀ q, ∀ u ∈ (s.port q).susp, u.job ≠ n) → JobRefused .resume w job s .wrongState)
      ∧ ∀ p why, s.suspendedAt p n why →
        (why ≠ .host → JobRefused .resume w job s .already)
        ∧ (why = .host → (s.port p).run ≠ none ∨ (s.port p).inc ≠ none → JobThen .resume w job s [.pull p, .settle]
          (fun t => t.modPort p (fun x => { x with susp := some { job := n, reason := .ret } })))
        ∧ (why = .host → (s.port p).run = none → (s.port p).inc = none → JobThen .resume w job s [.pull p, .settle]
          (fun t => (t.modPort p (fun x => { x with susp := some { job := n, reason := .ret } })).noteJob n
            (match w with
              | .host => .port
              | .panel => .panel)))

/-- JOB_MOVE (R50): the checks; the job is unpinned and gets the destination; a HELD one stays HELD, any other leaves
its queue or slot, joins the new destination's queue and is offered, and a port whose slot it left pulls. -/
def Obligations.JobMoveMoves : Prop :=
  ∀ (tag dest : Byte) (job : Half) (s : State), tag ≠ 0 → s.takes →
    let n := job.toNat
    let i := Instr.jobMove tag job dest
    let f : Frame := { kind := 0x13, tag := tag, payload := be16 n ++ [dest] }
    (31 < dest.toNat → Answers i s f .badField [] s.taking)
    ∧ ∀ d : Fin 32, dest.toNat = d.val →
      (s.job? n = none → Answers i s f .noJob [] s.taking)
      ∧ ∀ j, s.job? n = some j →
        ((s.dest d).enabled = false → Answers i s f .destDisabled [] s.taking)
        ∧ ((s.dest d).enabled = true →
          (j.state ∈ [JobState.spooling, .draining, .cancelling, .done, .cancelled] →
            Answers i s f .wrongState [] s.taking)
          ∧ (∀ p, j.state = .running ∨ j.state = .starved → s.runsAt p n →
            (s.port p).inFlight ≠ [] ∨ (s.port p).usable = true → Answers i s f .wrongState [] s.taking)
          ∧ (j.state = .held → AnswersSettled i s f []
              (s.taking.modJob n (fun j => { j with pinned := false, dest := d })))
          ∧ let moved := fun (j : Job) => { j with pinned := false, dest := d, queueEntry := some s.mlc.clock }
            let joins := fun (t : State) =>
              let u := t.modJob n moved
              (u.setQueue d (placeInQueue u (moved j) (u.queue d))).modJob n (fun j => { j with state := .queued })
            (j.state = .queued → s.slotless n →
              AnswersThen i s f [] [.offer n, .settle] (joins (s.taking.unqueues j)))
            ∧ (∀ p why, j.state = .suspended → s.suspendedAt p n why →
              AnswersThen i s f [] [.pull p, .offer n, .settle]
                ((joins (s.taking.modPort p (fun x => { x with susp := none }))).noteJob n .host))
            ∧ (∀ p, j.state = .suspended → s.incomingAt p n → AnswersThen i s f [] [.pull p, .offer n, .settle]
                ((joins (s.taking.modPort p (fun x => { x with inc := none }))).noteJob n .host))
            ∧ ∀ p, j.state = .running ∨ j.state = .starved → s.runsAt p n → (s.port p).inFlight = [] →
              (s.port p).usable = false → AnswersThen i s f [] [.pull p, .offer n, .settle]
                ((joins (evalMedia p (s.taking.modPort p (fun x => { x with run := none, busy := false })))).noteJob n
                  .host))

/-- JOB_FORGET (R52): the checks; the record of a finished job is freed and it leaves the finished list, wherever it
stands; nothing else changes, no notice is sent, and the number names no job any longer. -/
def Obligations.JobForgetForgets : Prop :=
  ∀ (tag : Byte) (job : Half) (s : State), tag ≠ 0 → s.takes → JobNumbers s →
    let n := job.toNat
    let i := Instr.jobForget tag job
    let f := jobFrame 0x14 tag job
    let t := { s.taking with jt := { s.jt with
      jobs := s.jt.jobs.filter (fun j => j.num != n), finished := s.jt.finished.erase n } }
    ((∀ j ∈ s.jt.jobs, j.num ≠ n) → Answers i s f .noJob [] s.taking)
    ∧ ∀ j ∈ s.jt.jobs, j.num = n →
      (j.state ≠ .done → j.state ≠ .cancelled → Answers i s f .wrongState [] s.taking)
      ∧ (j.state = .done ∨ j.state = .cancelled → Answers i s f .ok [] t ∧ t.job? n = none)

/-- JOB_QUERY: NO_JOB for a number that no record holds, else the contents of Table 3-5 after the status byte, 71 bytes
with it, an absent field 0, or 255 for the bound port and the drain purpose; it changes nothing (R53). -/
def Obligations.JobQueryReports : Prop :=
  ∀ (tag : Byte) (job : Half) (s : State), tag ≠ 0 → s.takes →
    let i := Instr.jobQuery tag job
    let f := jobFrame 0x0C tag job
    (s.job? job.toNat = none → Answers i s f .noJob [] s.taking)
    ∧ ∀ j, s.job? job.toNat = some j →
      let number := fun (n : Nat) => (BitVec.ofNat 8 n : Byte)
      let flag := fun (b : Bool) => if b then 1 else 0
      let contents := be16 j.num ++ [number j.account.val, number j.dest.val, number (flag j.rush), number j.priority]
        ++ be16 j.copies ++ [number (flag j.collate + 2 * flag j.earlyStart + 4 * flag j.duplex),
          number j.colour.code, number j.media.val, number j.size.val, number j.state.code,
          number (flag j.dataClosed + 2 * flag j.pinned + 4 * flag j.bound.isSome + 8 * flag j.firstDispatch.isSome
            + 16 * flag j.finished.isSome + 32 * flag j.queueEntry.isSome + 64 * flag j.purpose.isSome),
          number (flag j.holds.host + 2 * flag j.holds.panel + 4 * flag j.holds.credit),
          match j.purpose with
            | none => 255
            | some x => number x.code,
          match j.bound with
            | none => 255
            | some p => number p.val]
        ++ be16 j.complete ++ be32 (j.total.getD 0) ++ be32 j.limit ++ be32 j.cursor ++ be32 j.delivered
        ++ [number j.inFlight] ++ be32 j.spoiled ++ be32 j.doubtful ++ be32 j.impressions ++ be48 j.charged
        ++ be32 j.opened ++ be32 (j.firstDispatch.getD 0) ++ be32 (j.finished.getD 0) ++ be32 (j.queueEntry.getD 0)
      contents.length = 70 ∧ Answers i s f .ok contents s.taking

/-- JOB_LIST names a destination's queue, a port's pinned queue or the finished list in its order, after a two-byte
count, in 515 bytes at most, the status byte among them; any other selector or number is BAD_FIELD; it changes nothing
(R54). -/
def Obligations.JobListReports : Prop :=
  ∀ (tag selector number : Byte) (s : State), tag ≠ 0 → s.takes →
    let i := Instr.jobList tag selector number
    let f : Frame := { kind := 0x0D, tag := tag, payload := [selector, number] }
    let lists := fun (l : List Nat) => Answers i s f .ok (be16 l.length ++ l.flatMap be16) s.taking
      ∧ (be16 l.length ++ l.flatMap be16).length = 2 + 2 * l.length
    (∀ d : Fin 32, selector = 0 → number.toNat = d.val → lists (s.queue d))
    ∧ (∀ p : PortNo, selector = 1 → number.toNat = p.val → lists (s.port p).pinnedQ)
    ∧ (selector = 2 → number = 0 → lists s.jt.finished)
    ∧ ((selector = 0 ∧ 31 < number.toNat) ∨ (selector = 1 ∧ 15 < number.toNat) ∨ (selector = 2 ∧ number ≠ 0)
        ∨ 2 < selector.toNat → Answers i s f .badField [] s.taking)

/-- The sheet sequence (R38, R39): the image and copy of a position and the dispatch limit, by their formulas; the limit
never falls as images complete and as data is closed, and is the complete-image count for a job of one copy. Below the
limit, a position names an image that is complete and a copy that is wanted; the name stays the same as more images
complete and once data is closed; and two positions never name the same sheet. -/
def Obligations.SequenceIsStable : Prop :=
  (∀ (j : Job) (p : Nat),
    (j.collate = true → j.place p = (p % j.complete, p / j.complete))
      ∧ (j.collate = false → j.place p = (p / j.copies, p % j.copies))
      ∧ (∀ total, j.dataClosed = true → j.total = some total → j.limit = total)
      ∧ (j.dataClosed = false → j.collate = true → j.limit = j.complete)
      ∧ (j.dataClosed = false → j.collate = false → j.limit = j.copies * j.complete)
      ∧ (j.dataClosed = false → 0 < j.copies → j.limit ≤ j.closed.limit
          ∧ ∀ n ≥ j.complete, j.limit ≤ ({ j with complete := n }).limit)
      ∧ (j.dataClosed = false → j.copies = 1 → j.limit = j.complete ∧ j.closed.limit = j.complete))
  ∧ ∀ (j : Job) (p : Nat), 0 < j.copies → 0 < j.complete → j.dataClosed = false → p < j.limit →
    (j.place p).1 < j.complete ∧ (j.place p).2 < j.copies
      ∧ (j.collate = true → j.place p = (p, 0))
      ∧ (∀ n ≥ j.complete, ({ j with complete := n }).place p = j.place p ∧ p < ({ j with complete := n }).limit)
      ∧ p < j.closed.limit ∧ j.closed.place p = j.place p
      ∧ ∀ q < j.closed.limit, j.closed.place q = j.closed.place p → q = p

/-! ### The spool -/

/-- SHEET_DATA (R20 to R23): its checks; an accepted one appends the bytes to the BUILDING image, or to a new one with
the next index in the unused record with the lowest number, taking the head of the free-block list where a block is
needed; the image then reads as before with the data after it, and every byte of spool memory outside the bytes stored
reads as before. Whether the reply or an ALERT_EVENT of SPOOL_LOW goes out first is log 31. -/
def Obligations.SheetDataStores : Prop :=
  ∀ (tag : Byte) (job : Half) (data : List Byte) (s : State), tag ≠ 0 → s.takes → 1 ≤ data.length →
    data.length ≤ 1024 → SpoolPartition s → SpoolCanonical s →
    let n := job.toNat
    let i := Instr.sheetData tag job data
    let f : Frame := { kind := 0x09, tag := tag, payload := be16 n ++ data }
    let refused := fun (st : Status) => Answers i s f st [] s.taking
    (s.job? n = none → refused .noJob)
    ∧ ∀ j, s.job? n = some j →
      let needs := fun (x : Image) => decide (32768 * x.chain.length < x.length + data.length)
      let short := fun (x : Image) => needs x = true ∧
        (if j.rush then s.smm.free.length = 0 else s.smm.free.length ≤ s.cfg.rushReserve)
      let grown := fun (x : Image) => { x with
        chain := if needs x then x.chain ++ s.smm.free.take 1 else x.chain, length := x.length + data.length }
      let fate := fun (x : Image) (images : List Image) =>
        (8388608 < x.length + data.length → refused .imageTooLarge)
        ∧ (x.length + data.length ≤ 8388608 → short x → refused .spoolFull)
        ∧ (x.length + data.length ≤ 8388608 → ¬ short x →
          let spool := storeBytes (grown x).chain x.length data s.smm.spool
          let t := { s.taking with smm := { s.smm with
            free := if needs x then s.smm.free.tail else s.smm.free, images := images, spool := spool } }
          Answers i s f .ok (be16 x.index ++ be32 (x.length + data.length)) (if needs x then evalSpoolLow t else t)
            ∧ imageBytes spool (grown x) = imageBytes s.smm.spool x ++ data
            ∧ (∀ y ∈ s.smm.images, y.record ≠ x.record → imageBytes spool y = imageBytes s.smm.spool y)
            ∧ ∀ a, (∀ k, x.length ≤ k → k < x.length + data.length → byteAddr (grown x).chain k ≠ a) →
                memRead spool a = memRead s.smm.spool a)
      (¬ j.open_ → refused .wrongState)
      ∧ (j.open_ →
        (∀ x ∈ s.smm.images, x.job = n → x.complete = false →
          fate x (s.smm.images.map (fun y => if y.record = x.record then grown y else y)))
        ∧ ((∀ x ∈ s.smm.images, x.job = n → x.complete = true) →
          (4096 ≤ s.smm.imageCount n ∨ (∀ r < 16384, ∃ x ∈ s.smm.images, x.record = r) → refused .imageTableFull)
          ∧ ∀ r < 16384, s.smm.imageCount n < 4096 → (∀ x ∈ s.smm.images, x.record ≠ r) →
            (∀ k < r, ∃ x ∈ s.smm.images, x.record = k) →
            let x : Image := { record := r, job := n, index := s.smm.imageCount n }
            fate x (insertImage (grown x) s.smm.images)))

/-- SHEET_END (R24, R25): its checks; the image is COMPLETE with its sides and offset, the job counts one more, and
what its state makes of it follows: an early-start job leaves SPOOLING (R36) and is offered if it is queued, a STARVED
job runs (R41), and the port of a run job may dispatch (R101). -/
def Obligations.SheetEndCompletes : Prop :=
  ∀ (tag : Byte) (job : Half) (sides : Byte) (offset : Word) (s : State), tag ≠ 0 → s.takes → SpoolPartition s →
    let n := job.toNat
    let i := Instr.sheetEnd tag job sides offset
    let f : Frame := { kind := 0x0A, tag := tag, payload := be16 n ++ [sides] ++ be32 offset.toNat }
    (s.job? n = none → Answers i s f .noJob [] s.taking)
    ∧ ∀ j, s.job? n = some j →
      (¬ j.open_ → Answers i s f .wrongState [] s.taking)
      ∧ (j.open_ → (∀ x ∈ s.smm.images, x.job = n → x.complete = true) → Answers i s f .noImage [] s.taking)
      ∧ (j.open_ → ∀ x ∈ s.smm.images, x.job = n → x.complete = false →
        let fits := (sides = 1 ∧ offset = 0)
          ∨ (sides = 2 ∧ j.duplex = true ∧ 0 < offset.toNat ∧ offset.toNat < x.length)
        (¬ fits → Answers i s f .badField [] s.taking)
        ∧ (fits →
          let done := { x with
            complete := true, sides := some sides.toNat, offset := if sides = 2 then some offset.toNat else none }
          let t := { s.taking with smm := { s.smm with
            images := s.smm.images.map (fun (y : Image) => if y.record = x.record then done else y) } }
          let ok := AnswersSettled i s f (be16 x.index ++ be16 (j.complete + 1))
          let then_ := AnswersThen i s f (be16 x.index ++ be16 (j.complete + 1))
          let more := fun (j : Job) (st : JobState) => { j with complete := j.complete + 1, state := st }
          ((j.state = .spooling ∧ j.earlyStart = false)
              ∨ j.state ∈ [JobState.queued, .held, .draining, .suspended] →
            ok (t.modJob n (fun j => more j j.state)))
          ∧ (j.state = .spooling → j.earlyStart = true → s.slotless n → j.holds.isEmpty = false →
            ok ((t.modJob n (fun j => more j .held)).noteJob n .data))
          ∧ (j.state = .spooling → j.earlyStart = true → s.slotless n → j.holds.isEmpty = true →
            j.pinned = false ∨ j.bound = none →
            let u := t.modJob n (fun j => { more j .spooling with queueEntry := some s.mlc.clock })
            let q := placeInQueue u { more j .spooling with queueEntry := some s.mlc.clock } (s.queue j.dest)
            then_ [.offer n, .settle] (((u.setQueue j.dest q).modJob n (fun j => { j with state := .queued })).noteJob
              n .data))
          ∧ (∀ p, j.state = .starved → s.runsAt p n → j.cursor = j.limit → 0 < j.copies →
            then_ [.dispatch p, .settle] ((t.modJob n (fun j => more j .running)).noteJob n .data))
          ∧ ∀ p, j.state = .running → s.runsAt p n → j.cursor < j.limit →
            then_ [.dispatch p, .settle] (t.modJob n (fun j => more j .running))))

/-- The part-wide requests. PORT_QUERY for port 16 reports 16 bytes after the status (R29). PORT_SET for port 16
replaces the rush reserve, the low-spool threshold and the escalation time, and evaluates SPOOL_LOW and the horn (R28,
R30, R156); SPOOL_LOW is on while the threshold is not 0 and the free count is below it. Whether the reply or an ALERT_EVENT goes out
first is log 31. -/
def Obligations.PartWideRequests : Prop :=
  ∀ (tag : Byte) (s : State), tag ≠ 0 → s.takes →
    (∀ clear : Byte, let f : Frame := { kind := 0x21, tag := tag, payload := [16, clear] }
      (clear.toNat ≤ 1 → Answers (.portQueryPartWide tag clear) s f .ok
          (be32 (blockCount s.smm.sizeClass) ++ be32 s.smm.free.length ++ be16 s.smm.images.length
            ++ be16 s.cfg.rushReserve ++ be16 s.cfg.lowSpool
            ++ [BitVec.ofNat 8 s.cfg.escalation, if s.smm.low then 1 else 0]) s.taking)
        ∧ (1 < clear.toNat → Answers (.portQueryPartWide tag clear) s f .badField [] s.taking))
    ∧ ∀ (reserve threshold : Half) (escalation zero1 zero2 : Byte), s.ss.saving = none →
      let i := Instr.portSetPartWide tag reserve threshold escalation zero1 zero2
      let f : Frame := { kind := 0x20, tag := tag
                         payload := [16] ++ be16 reserve.toNat ++ be16 threshold.toNat ++ [escalation, zero1, zero2] }
      let t := { s.taking with cfg := { s.cfg with
        rushReserve := reserve.toNat, lowSpool := threshold.toNat, escalation := escalation.toNat } }
      let now := decide (threshold.toNat ≠ 0 ∧ s.smm.free.length < threshold.toNat)
      (4096 < reserve.toNat ∨ zero1 ≠ 0 ∨ zero2 ≠ 0 → Answers i s f .badField [] s.taking)
        ∧ (reserve.toNat ≤ 4096 → zero1 = 0 → zero2 = 0 →
          (now = s.smm.low → Answers i s f .ok [] (evalHorn t))
          ∧ (now = true → s.smm.low = false → Answers i s f .ok [] (evalHorn (alertOn 112 (some s.smm.free.length)
              { t with smm := { s.smm with low := true } })))
          ∧ (now = false → s.smm.low = true → Answers i s f .ok [] (evalHorn (alertOff 112
              { t with smm := { s.smm with low := false } }))))

/-! ### Destinations and the scheduler -/

/-- ROUTE_MASK holds its bits for the next request (R57). ROUTE_SET replaces the fields the mask names, all of them
without one, after its checks (R56, R57), and a destination it leaves ENABLED offers its queued jobs one at a time, head
first (R58); where the destination is left disabled or without queued jobs, or no port is usable, that places nothing.
ROUTE_QUERY reports the record in 28 bytes (R59). -/
def Obligations.RouteRequests : Prop :=
  ∀ (tag : Byte) (s : State), tag ≠ 0 → s.takes →
    (∀ mask : Byte, (1 ≤ mask.toNat → mask.toNat ≤ 15 → Answers (.routeMask tag mask) s ⟨0x19, tag, [mask]⟩ .ok []
          { s.taking with dt := { s.dt with routeMask := some {
            members := mask.getLsbD 0, label := mask.getLsbD 1, enabled := mask.getLsbD 2
            insert := mask.getLsbD 3 } } })
        ∧ (mask.toNat = 0 ∨ 15 < mask.toNat →
          Answers (.routeMask tag mask) s ⟨0x19, tag, [mask]⟩ .badField [] s.taking))
    ∧ (∀ dest : Byte,
        (∀ d : Fin 32, dest.toNat = d.val → Answers (.routeQuery tag dest) s ⟨0x1A, tag, [dest]⟩ .ok
          ([BitVec.ofNat 8 ((if (s.dest d).enabled then 1 else 0) + (if (s.dest d).insert then 2 else 0)),
              BitVec.ofNat 8 (s.dest d).members.length]
            ++ (s.dest d).members.map (fun p => BitVec.ofNat 8 p.val)
            ++ List.replicate (8 - (s.dest d).members.length) 255
            ++ (s.dest d).label ++ List.replicate (16 - (s.dest d).label.length) 0
            ++ be16 (s.queue d).length) s.taking)
        ∧ (31 < dest.toNat → Answers (.routeQuery tag dest) s ⟨0x1A, tag, [dest]⟩ .badField [] s.taking))
    ∧ ∀ (dest flags count : Byte) (members : Vector Byte 8) (label : Vector Byte 16), s.ss.saving = none →
      let i := Instr.routeSet tag dest flags count members label
      let f : Frame := { kind := 0x18, tag := tag
                         payload := [dest, flags, count] ++ members.toList ++ label.toList }
      let m := s.dt.routeMask.getD { members := true, label := true, enabled := true, insert := true }
      let lists := fun (ports : List PortNo) => count.toNat = ports.length ∧ ports.length ≤ 8 ∧ ports.Nodup
        ∧ members.toList = ports.map (fun p => BitVec.ofNat 8 p.val) ++ List.replicate (8 - ports.length) 255
      let spells := fun (text : List Byte) => (∀ b ∈ text, 0x20 ≤ b.toNat ∧ b.toNat ≤ 0x7E) ∧ text.length ≤ 16
        ∧ label.toList = text ++ List.replicate (16 - text.length) 0
      (31 < dest.toNat ∨ 3 < flags.toNat → Answers i s f .badField [] s.taking)
      ∧ (m.members = true → (∀ ports, ¬ lists ports) → Answers i s f .badField [] s.taking)
      ∧ (m.label = true → (∀ text, ¬ spells text) → Answers i s f .badField [] s.taking)
      ∧ ∀ (d : Fin 32) (ports : List PortNo) (text : List Byte), dest.toNat = d.val → flags.toNat ≤ 3 →
        (if m.members then lists ports else ports = (s.dest d).members) →
        (if m.label then spells text else text = (s.dest d).label) →
        let r : Dest := { label := text, members := ports
                          enabled := if m.enabled then flags.getLsbD 0 else (s.dest d).enabled
                          insert := if m.insert then flags.getLsbD 1 else (s.dest d).insert }
        let t := s.taking.setDest d r
        (r.enabled = true → AnswersThen i s f [] ((s.queue d).map .offer ++ [.settle]) t)
        ∧ (r.enabled = false ∨ s.queue d = [] ∨ (∀ p, (s.port p).usable = false) → AnswersSettled i s f [] t)

/-- Queue order (R61): a joining job is placed after every job that is ahead of it or equal to it and before the first
one it is ahead of; nothing else moves, and a queue in order stays in order. -/
def Obligations.QueueOrder : Prop :=
  ∀ (s : State) (j : Job) (q : List Nat), s.job? j.num = some j → j.num ∉ q → (∀ n ∈ q, s.job? n ≠ none) →
    s.ordered q →
    s.ordered (placeInQueue s j q)
      ∧ ∃ q₁ q₂, q = q₁ ++ q₂ ∧ placeInQueue s j q = q₁ ++ j.num :: q₂
        ∧ (∀ n ∈ q₁, ∀ k, s.job? n = some k → ¬ Before j k) ∧ ∀ n ∈ q₂, ∀ k, s.job? n = some k → Before j k

/-- Who takes a job and what a port takes. A job not queued at its destination, or pinned, is not offered (R60, R65).
An offer goes to the first member, in preference order, with an empty run slot that is usable and can serve the job
(R64), else, for a RUSH job at a destination with INSERT set, to the first member where it can make room (R73, R74); a
frozen destination offers nothing (R58). A pull takes the incoming job (R76), else the suspended job unless its reason
is HOST, usable or not (R67, R81), else, at a usable port, the head of the pinned queue, else the best candidate of
the ENABLED destinations that list the port (R67). -/
def Obligations.SchedulerChoices : Prop :=
  (∀ (s : State) (n : Nat), s.job? n = none → offerJob n s = (s, []))
  ∧ (∀ (s : State) (n : Nat) (j : Job), s.job? n = some j →
    ((s.dest j.dest).enabled = false ∨ n ∉ s.queue j.dest ∨ (j.pinned = true ∧ j.bound ≠ none) →
      offerJob n s = (s, []))
    ∧ ((s.dest j.dest).enabled = true → (j.pinned = false ∨ j.bound = none) → n ∈ s.queue j.dest →
      let free := fun (p : PortNo) =>
        (s.port p).run = none ∧ (s.port p).usable = true ∧ (s.port p).canServe j = true
      let room := fun (p : PortNo) => (s.port p).susp = none ∧ (s.port p).inc = none ∧ (s.port p).usable = true
        ∧ (s.port p).canServe j = true
        ∧ ∃ v k, (s.port p).run = some v ∧ s.job? v = some k ∧ k.rush = false
            ∧ (k.state = .running ∨ k.state = .starved)
      (∀ l p r, (s.dest j.dest).members = l ++ p :: r → (∀ q ∈ l, ¬ free q) → free p →
        offerJob n s = (enterRun p n (leaveQueue j s), [.dispatch p]))
      ∧ ((∀ q ∈ (s.dest j.dest).members, ¬ free q) →
        (j.rush = false ∨ (s.dest j.dest).insert = false ∨ (∀ q ∈ (s.dest j.dest).members, ¬ room q) →
          offerJob n s = (s, []))
        ∧ (j.rush = true → (s.dest j.dest).insert = true → ∀ l p r v,
          (s.dest j.dest).members = l ++ p :: r → (∀ q ∈ l, ¬ room q) → room p → s.runsAt p v → s.slotless n →
          (offerJob n s).2 = [.runEnd p .start]
            ∧ let t := (offerJob n s).1
              (t.port p).inc = some n ∧ (t.port p).run = some v ∧ (t.queue j.dest) = (s.queue j.dest).erase j.num
              ∧ (∀ q, q ≠ p → t.port q = s.port q)
              ∧ (∃ k, t.job? n = some k ∧ k.state = .suspended ∧ k.queueEntry = none ∧ k.bound = j.bound
                  ∧ k.pinned = j.pinned)
              ∧ ∃ k, t.job? v = some k ∧ k.state = .draining ∧ k.purpose = some .suspendInsert))))
  ∧ (∀ (s : State) (p : PortNo), ((s.port p).run ≠ none → pull p s = (s, []))
    ∧ ((s.port p).run = none →
      (∀ n, (s.port p).inc = some n →
        pull p s = (enterRun p n (s.modPort p (fun x => { x with inc := none })), [.dispatch p]))
      ∧ (∀ n why, (s.port p).inc = none → (s.port p).susp = some { job := n, reason := why } → why ≠ .host →
        pull p s = (enterRun p n (s.modPort p (fun x => { x with susp := none })), [.dispatch p]))
      ∧ ((s.port p).inc = none → (∀ u ∈ (s.port p).susp, u.reason = .host) →
        ((s.port p).usable = false → pull p s = (s, []))
        ∧ ((s.port p).usable = true →
          (∀ n rest, (s.port p).pinnedQ = n :: rest →
            pull p s = (enterRun p n (s.modPort p (fun x => { x with pinnedQ := rest })), [.dispatch p]))
          ∧ ((s.port p).pinnedQ = [] →
            (bestCandidate s p = none → pull p s = (s, []))
            ∧ ∀ d j, bestCandidate s p = some (d, j) →
              pull p s = (enterRun p j.num (s.setQueue d ((s.queue d).erase j.num)), [.dispatch p]))))))
  ∧ ∀ (s : State) (p : PortNo),
    let puts := fun (d : Fin 32) (j : Job) => (s.dest d).enabled = true ∧ p ∈ (s.dest d).members
      ∧ ∃ l n r, s.queue d = l ++ n :: r ∧ s.job? n = some j ∧ (s.port p).canServe j = true
        ∧ ∀ m ∈ l, ∀ k, s.job? m = some k → (s.port p).canServe k = false
    (bestCandidate s p = none → ∀ d j, ¬ puts d j)
      ∧ ∀ d j, bestCandidate s p = some (d, j) → puts d j
        ∧ ∀ d' k, puts d' k → ¬ Before k j ∧ (d' < d → Before j k)

/-- A job taken into a run slot: bound, its entry time gone, its first-dispatch time kept or set, RUNNING or, with open
data and its cursor at its limit, STARVED, with a JOB_EVENT at a change, and MEDIA_OUT evaluated for its media class, with
the lamps and the horn (R33, R41, R42, R68, R91); the port's idle timer stops, since the port has demand now (R95);
nothing else changes. A run job whose cancel or drain ends, nothing
being in flight: CANCELLED (R49); DONE when every sheet of closed data is delivered, else HELD with a hold reason, else
SUSPENDED after a drain for suspension, else QUEUED (R47, R75, R79); the run slot is empty and the port pulls (R66), the
pull before the offer (log 8). The reason of a rewind is FAULT for a SUSPEND_HOST drain too (R47), where R79 says PORT
(log 33). A run job with sheets in flight, and one that neither drains nor is cancelled, is left as it is. -/
def Obligations.RunSlotChanges : Prop :=
  ∀ (s : State) (p : PortNo) (n : Nat) (j : Job), s.job? n = some j →
    (∀ t, t = enterRun p n s →
      t.job? n = some { j with
          bound := some p, queueEntry := none, firstDispatch := some (j.firstDispatch.getD s.mlc.clock)
          state := if j.dataClosed = false ∧ j.cursor = j.limit then .starved else .running }
        ∧ (∀ m, m ≠ n → t.job? m = s.job? m)
        ∧ (t.port p).conds.mediaOut = (s.port p).mediaEmpty.getLsbD j.media.val
        ∧ t.mlc = s.mlc ∧ t.smm = s.smm ∧ t.jt.lastNum = s.jt.lastNum ∧ t.jt.finished = s.jt.finished ∧ t.dt = s.dt
        ∧ t.reserved = s.reserved ∧ t.pbc = s.pbc ∧ t.cfg = s.cfg ∧ t.ss = s.ss ∧ t.pressOut = s.pressOut
        ∧ t.freeCount = s.freeCount ∧ t.base = s.base ∧ t.pending = s.pending
        ∧ ((∀ q, q ≠ p → (s.port q).run ≠ some n) →
          let st := if j.dataClosed = false ∧ j.cursor = j.limit then JobState.starved else .running
          let k := { j with
            bound := some p, queueEntry := none, firstDispatch := some (j.firstDispatch.getD s.mlc.clock), state := st }
          let u := (s.modPort p (fun x => { x with
            run := some n, idleTimer := none
            busy := x.busy && (decide (st = .running) || decide (j.state = st)) })).modJob n (fun _ => k)
          t = evalMedia p (if j.state = st then u else u.noteJob n .port)
            ∧ (∀ q, q ≠ p → t.port q = s.port q)
            ∧ ∃ lamps, t.port p = { s.port p with
                run := some n, idleTimer := none
                busy := (s.port p).busy && (decide (st = .running) || decide (j.state = st))
                conds := { (s.port p).conds with mediaOut := (s.port p).mediaEmpty.getLsbD j.media.val }
                lamps := lamps }))
    ∧ ∀ cause : EndCause, s.runsAt p n →
      let left := evalMedia p (s.modPort p (fun x => { x with run := none, busy := false }))
      let whole := j.dataClosed = true ∧ j.total = some j.delivered
      let changes := fun (t : State) (k : Job → Job) =>
        (t.modJob n k).noteJob n (match cause with
          | .out => .port
          | .rewind => .fault
          | .start => .port)
      let ended := fun (st : JobState) => (left.finishes n st (match cause with
          | .out => .delivery
          | .rewind => .fault
          | .start => .port), [Task.pull p])
      (j.inFlight ≠ 0 → (cause = .out → ¬ whole) → runEnd p cause s = (s, []))
      ∧ (j.state ∉ [JobState.cancelling, .draining] → (cause = .out → ¬ whole) → runEnd p cause s = (s, []))
      ∧ (j.inFlight = 0 → j.state = .cancelling → runEnd p cause s = ended .cancelled)
      ∧ (j.inFlight = 0 → j.state = .draining → whole → runEnd p cause s = ended .done)
      ∧ (cause = .out → j.state = .running ∨ j.state = .starved → whole → runEnd p cause s = ended .done)
      ∧ (j.inFlight = 0 → j.state = .draining → ¬ whole →
        (j.holds.isEmpty = false → runEnd p cause s =
          (changes left (fun j => { j with purpose := none, state := .held }), [.pull p]))
        ∧ (j.holds.isEmpty = true →
          let suspends := j.purpose = some .suspendInsert ∨ j.purpose = some .suspendHost
          let slot : Suspended :=
            { job := n, reason := if j.purpose = some .suspendInsert then .insert else .host }
          (suspends → runEnd p cause s = (changes (left.modPort p (fun x => { x with susp := some slot }))
              (fun j => { j with purpose := none, state := .suspended }), [.pull p]))
          ∧ (¬ suspends →
            let joined := fun (j : Job) => { j with purpose := none, queueEntry := some s.mlc.clock, state := .queued }
            (∀ b, j.pinned = true → j.bound = some b → runEnd p cause s =
              (changes (left.modPort b (fun x => { x with pinnedQ := x.pinnedQ ++ [n] })) joined, [.pull p, .pull b]))
            ∧ (j.pinned = false ∨ j.bound = none →
              let k := { j with purpose := none, queueEntry := some s.mlc.clock }
              runEnd p cause s = (changes (left.setQueue j.dest (placeInQueue (left.modJob n (fun _ => k)) k
                (s.queue j.dest))) joined, [.pull p, .offer n])))))

/-! ### Dispatch -/

/-- The dispatch of a sheet (R101): nothing happens unless every condition holds; a sheet that passes the credit check
is priced, reserved (R130, R139, R140), recorded in flight under the next link tag with the image's sides and side-2
offset (R26, R100), counted by its job (R40,
R41), and its transfer begins: the head frame, the image in bodies of 1,024 bytes but for the last, the tail, all under
its tag (R102); one that fails it is a credit stop (R46, R143). -/
def Obligations.DispatchSends : Prop :=
  ∀ (s : State) (p : PortNo) (n : Nat) (j : Job) (x : Image), (s.port p).run = some n → s.job? n = some j →
    let x₀ := s.port p
    let ready := x₀.usable = true ∧ j.state = .running ∧ j.cursor < j.limit ∧ x₀.inFlight.length < x₀.effWindow
      ∧ ∀ f ∈ x₀.inFlight, f.stage = .taken
    (¬ ready → dispatch p s = (s, []))
    ∧ (ready → s.smm.image? n (j.place j.cursor).1 = some x →
      let a := s.account j.account
      let r := s.reservation j.account
      let sides := x.sides.getD 1
      let charge := s.cfg.active.charge a (a.periodImpressions + r.impressions) j.colour j.media j.size sides
      let f : Flight := { job := n, pos := j.cursor, index := (j.place j.cursor).1, copy := (j.place j.cursor).2
                          tag := x₀.nextTag, sides := sides, offset := x.offset, charge := charge, stage := .sending }
      let passes := a.limited = false ∨ a.periodCharged + r.mills + charge ≤ a.limit
      let t := (dispatch p s).1
      (passes → (dispatch p s).2 = []
        ∧ (∃ bodies : List (List Byte), bodies.flatten = imageBytes s.smm.spool x
          ∧ (∀ b ∈ bodies.dropLast, b.length = 1024) ∧ (∀ b ∈ bodies, 1 ≤ b.length ∧ b.length ≤ 1024)
          ∧ (t.port p).transfer = { kind := 0x02, tag := f.tag
                                    payload := be16 n ++ be32 f.pos ++ be16 f.index ++ be16 f.copy ++ be8 sides
                                      ++ be32 (x.offset.getD 0) ++ be32 x.length
                                      ++ be8 j.colour.code ++ be8 j.media.val ++ be8 j.size.val }
              :: bodies.map (fun b => { kind := 0x03, tag := f.tag, payload := b })
              ++ [{ kind := 0x04, tag := f.tag, payload := [] }])
        ∧ (t.port p).inFlight = x₀.inFlight ++ [f] ∧ (t.port p).nextTag = x₀.nextTag + 1
        ∧ (∀ q, q ≠ p → s.runsAt p n → t.port q = s.port q)
        ∧ t.job? n = some { j with
            cursor := j.cursor + 1, inFlight := j.inFlight + 1
            state := if j.dataClosed = false ∧ j.cursor + 1 = j.limit then .starved else .running }
        ∧ t.reservation j.account = { mills := r.mills + charge, impressions := r.impressions + sides }
        ∧ t.cfg = s.cfg ∧ t.smm = s.smm ∧ ∀ b, b ≠ j.account → t.reservation b = s.reservation b)
      ∧ (¬ passes → (dispatch p s).2 = [.runEnd p .start] ∧ (t.port p).inFlight = x₀.inFlight
        ∧ (t.port p).nextTag = x₀.nextTag ∧ t.reserved = s.reserved ∧ t.cfg = s.cfg
        ∧ t.job? n = some { j with
            holds := { j.holds with credit := true }, purpose := some .credit, state := .draining }))

/-- The sheet charge (R131, R132, R133): exact arithmetic with one rounding, an exact half mill up; 0 for an EXEMPT
account, tier 0 for a FIXED one; under a consistent sheet that Table 8-1 can hold it never passes 2,088,928 mills. -/
def Obligations.SheetChargeFormula : Prop :=
  ∀ (t : Tariff) (a : Account) (n : Nat) (c : Colour) (m z : Fin 8) (sides : Nat),
    (∀ k : Fin 16, k.val = (match c with
        | .mono => 0
        | .color => 8) + m.val →
      ∀ tier : Fin 4, (a.fixed = true → tier = 0) →
        (a.fixed = false → (tier = 0 ∧ n < t.t1) ∨ (tier = 1 ∧ t.t1 ≤ n ∧ n < t.t2)
          ∨ (tier = 2 ∧ t.t1 ≤ n ∧ t.t2 ≤ n ∧ n < t.t3) ∨ (tier = 3 ∧ t.t1 ≤ n ∧ t.t2 ≤ n ∧ t.t3 ≤ n)) →
        t.charge a n c m z sides = if a.exempt then 0 else
          (t.base[k] * t.size[z] * (16 + (sides - 1) * t.second) * (100 - t.discount[tier]) + 12800) / 25600)
    ∧ (t.check = 0 → (∀ k : Fin 16, t.base[k] ≤ 65535) → (∀ k : Fin 8, t.size[k] ≤ 255) → t.second ≤ 16 →
        sides ≤ 2 → t.charge a n c m z sides ≤ 2088928)
    ∧ (t.check = 0 ↔ t.t1 < t.t2 ∧ t.t2 < t.t3 ∧ (∀ k : Fin 4, t.discount[k] ≤ 90) ∧ ∀ k : Fin 8, t.size[k] ≠ 0)

/-! ### Ports: requests and wake control -/

/-- PORT_SET for a press port (R107): its checks; the settings are replaced, the effective window is recomputed (R99),
an UP link starts a rate window (R105), the lamps are evaluated (R155), and a raised window may dispatch (R101). -/
def Obligations.PortSetSets : Prop :=
  ∀ (tag port window progress wake idle rate slowFloor lampMode : Byte) (s : State), tag ≠ 0 → s.takes →
    s.ss.saving = none →
    let i := Instr.portSet tag port window progress wake idle rate slowFloor lampMode
    let f : Frame := { kind := 0x20, tag := tag
                       payload := [port, window, progress, wake, idle, rate, slowFloor, lampMode] }
    let fits := 1 ≤ window.toNat ∧ window.toNat ≤ 32 ∧ wake ≠ 0 ∧ idle ≠ 0 ∧ rate ≠ 0 ∧ lampMode.toNat ≤ 1
    (16 < port.toNat ∨ (port.toNat < 16 ∧ ¬ fits) → Answers i s f .badField [] s.taking)
    ∧ (port = 16 → exec i s = exec (.portSetPartWide tag (window ++ progress) (wake ++ idle) rate slowFloor lampMode) s)
    ∧ ∀ p : PortNo, port.toNat = p.val → fits →
      let c : PortSettings := { window := window.toNat, progress := progress.toNat, wake := wake.toNat
                                idle := idle.toNat, rate := rate.toNat, slowFloor := slowFloor.toNat
                                lampHost := lampMode == 1 }
      let x := s.port p
      let y := if x.link = .up then { x with
          effWindow := max (min window.toNat (x.maxWindow.getD 0)) x.inFlight.length
          rateCount := 0, busy := x.usable && s.runRunning p }
        else { x with effWindow := 0 }
      AnswersThen i s f [] [.dispatch p, .settle] (evalLamps p ((s.taking.setPortCfg p c).setPort p y))

/-- PORT_QUERY: port 16 is the part-wide form (R29), a port above it and a clear byte above 1 are BAD_FIELD; a press port
reports the fields of Table 6-4 and the in-flight records of Table 1-10, oldest first, in 49 + 17n bytes after the
status; with a clear byte of 1 the meters are then zeroed, and it changes nothing else (R106, R108). -/
def Obligations.PortQueryReports : Prop :=
  ∀ (tag port clear : Byte) (s : State), tag ≠ 0 → s.takes →
    let i := Instr.portQuery tag port clear
    let f : Frame := { kind := 0x21, tag := tag, payload := [port, clear] }
    (port = 16 → exec i s = exec (.portQueryPartWide tag clear) s)
    ∧ (16 < port.toNat → Answers i s f .badField [] s.taking)
    ∧ ∀ p : PortNo, port.toNat = p.val →
    let x := s.port p
    let c := s.portCfg p
    let number := fun (n : Nat) => (BitVec.ofNat 8 n : Byte)
    let flag := fun (b : Bool) => if b then 1 else 0
    let contents := [number p.val, number x.link.code, number (flag x.ready + 2 * flag x.jammed + 4 * flag x.doorOpen),
        x.mediaEmpty, number x.wakeMode.code,
        number (flag x.forceOff + 2 * flag x.caps.isSome + 4 * flag x.conds.slow + 8 * flag x.usable),
        number (flag x.pauseHost + 2 * flag x.pausePanel)]
      ++ (match x.caps with
          | none => [0, 0, 0, 0]
          | some k => [number k.colour.code, number (flag k.duplex), k.media, k.size])
      ++ [number (x.maxWindow.getD 0), number c.window, number x.effWindow, x.nextTag, number c.progress,
        number c.wake, number c.idle, number c.rate, number c.slowFloor, number (flag c.lampHost),
        number x.latchedRate, number x.rateCount]
      ++ be32 x.meters.sheets ++ be32 x.meters.impressions ++ be32 x.meters.spoiled ++ be32 x.meters.doubtful
      ++ be16 (x.run.getD 0)
      ++ (match x.susp with
          | none => be16 0 ++ [255]
          | some u => be16 u.job ++ [number u.reason.code])
      ++ be16 (x.inc.getD 0) ++ be16 x.pinnedQ.length ++ [number x.inFlight.length]
      ++ x.inFlight.flatMap (fun r => [r.tag, number r.stage.code] ++ be16 r.job ++ be32 r.pos ++ be16 r.index
        ++ be16 r.copy ++ [number r.sides] ++ be32 r.charge)
    contents.length = 49 + 17 * x.inFlight.length
    ∧ (clear.toNat = 0 → Answers i s f .ok contents s.taking)
    ∧ (clear.toNat = 1 → Answers i s f .ok contents (s.taking.setPort p { x with
        meters := { sheets := 0, impressions := 0, spoiled := 0, doubtful := 0 } }))
    ∧ (1 < clear.toNat → Answers i s f .badField [] s.taking)

/-- PORT_WAKE replaces the wake mode and applies the wake table (R94, R97); PORT_PAUSE and the panel PAUSE put HOST or
PANEL into the pause set, PORT_UNPAUSE empties it, the panel UNPAUSE takes PANEL alone out of it (R98, R163). A port
that thereby becomes usable pulls and dispatches (R92). A port above 15 and a mode above 2 are BAD_FIELD. -/
def Obligations.WakeAndPause : Prop :=
  (∀ (tag port mode : Byte) (s : State), tag ≠ 0 → s.takes →
    (15 < port.toNat ∨ 2 < mode.toNat → Answers (.portWake tag port mode) s ⟨0x22, tag, [port, mode]⟩ .badField [] s.taking)
    ∧ (15 < port.toNat → Answers (.portPause tag port) s ⟨0x23, tag, [port]⟩ .badField [] s.taking
      ∧ Answers (.portUnpause tag port) s ⟨0x24, tag, [port]⟩ .badField [] s.taking))
  ∧ ∀ (tag port : Byte) (s : State) (p : PortNo), tag ≠ 0 → s.takes → port.toNat = p.val →
    let then_ := fun (w : State) =>
      if (s.port p).usable = false ∧ (w.port p).usable = true then [Task.pull p, .dispatch p, .settle] else [.settle]
    (∀ (mode : Byte) (m : WakeMode), mode.toNat = m.code →
      let f : Frame := { kind := 0x22, tag := tag, payload := [port, mode] }
      let w := wakeTable p (s.taking.modPort p (fun x => { x with
        wakeMode := m, forceOff := x.forceOff && decide (m = .forceOff) }))
      ((s.port p).wakeMode = m → Answers (.portWake tag port mode) s f .already [] s.taking)
      ∧ ((s.port p).wakeMode ≠ m → AnswersThen (.portWake tag port mode) s f [] (then_ w) w))
    ∧ (let f : Frame := { kind := 0x23, tag := tag, payload := [port] }
      ((s.port p).pauseHost = true → Answers (.portPause tag port) s f .already [] s.taking)
      ∧ ((s.port p).pauseHost = false → Answers (.portPause tag port) s f .ok []
          (settlePort p (s.taking.modPort p (fun x => { x with pauseHost := true })))))
    ∧ (let f : Frame := { kind := 0x24, tag := tag, payload := [port] }
      let w := s.taking.modPort p (fun x => { x with pauseHost := false, pausePanel := false })
      ((s.port p).pauseHost = false → (s.port p).pausePanel = false →
        Answers (.portUnpause tag port) s f .already [] s.taking)
      ∧ ((s.port p).pauseHost = true ∨ (s.port p).pausePanel = true →
        AnswersThen (.portUnpause tag port) s f [] (then_ w) w))
    ∧ ∀ (a : Fin 8) (number : Byte) (argument : Half), argument.toNat = p.val →
      let b : Byte := BitVec.ofNat 8 a.val
      (s.awaits a .floor number 3 →
        ((s.port p).pausePanel = true → PanelRefused (.panelPause b number argument) s a number 3 p.val .already)
        ∧ ((s.port p).pausePanel = false → PanelDoes (.panelPause b number argument) s a number 3 p.val id
            (fun t => settlePort p (t.modPort p (fun x => { x with pausePanel := true })))))
      ∧ (s.awaits a .floor number 4 →
        ((s.port p).pausePanel = false → PanelRefused (.panelUnpause b number argument) s a number 4 p.val .already)
        ∧ ((s.port p).pausePanel = true →
          let w := (s.heard a).modPort p (fun x => { x with pausePanel := false })
          Ends (.panelUnpause b number argument) s (cascade
            (then_ w ++ [.note 0x74 ([b, 2, 4] ++ be16 p.val ++ [0])]) (w.recorded a number 4 p.val .ok))))

/-- The wake table (R94, R95, R96): what demand is, and what each link state makes of each wake mode; and what a link
that leaves UP for DOWN loses (R90). -/
def Obligations.WakeTableApplied : Prop :=
  ∀ (s : State) (p : PortNo), let x := s.port p
    (demand s p = true ↔ x.run ≠ none ∨ x.susp ≠ none ∨ x.inc ≠ none ∨ x.pinnedQ ≠ []
      ∨ ∃ d n j, (s.dest d).enabled = true ∧ p ∈ (s.dest d).members ∧ n ∈ s.queue d ∧ s.job? n = some j
        ∧ (x.caps = none ∨ x.canServe j = true))
    ∧ (x.link = .down → x.wakeMode = .forceOn ∨ (x.wakeMode = .auto ∧ demand s p = true) →
      wakeTable p s = (s.portBecomes p { x with
        link := .waking, hailTimer := true, wakeTimer := some (s.portCfg p).wake, effWindow := 0 }).send p
          { kind := 0x01, tag := 0, payload := [] })
    ∧ (x.link = .down → x.wakeMode = .forceOff ∨ (x.wakeMode = .auto ∧ demand s p = false) → wakeTable p s = s)
    ∧ (x.link = .waking ∨ x.link = .recovering ∨ x.link = .offline →
      (x.wakeMode ≠ .forceOff → wakeTable p s = s)
      ∧ (x.wakeMode = .forceOff → wakeTable p s = s.portBecomes p { x with
          link := .down, effWindow := 0, forceOff := false, wakeTimer := none, hailTimer := false
          attempt := none, idleTimer := none }))
    ∧ (x.link = .up →
      (x.inFlight ≠ [] → wakeTable p s = s.setPort p { x with
        idleTimer := none, forceOff := x.forceOff || decide (x.wakeMode = .forceOff) })
      ∧ (x.inFlight = [] → x.wakeMode = .forceOn ∨ (x.wakeMode = .auto ∧ demand s p = true) →
        wakeTable p s = s.setPort p { x with idleTimer := none })
      ∧ (x.inFlight = [] → x.wakeMode = .auto → demand s p = false → wakeTable p s = s.setPort p { x with
          idleTimer := some (x.idleTimer.getD (s.portCfg p).idle) })
      ∧ (x.inFlight = [] → x.wakeMode = .forceOff → wakeTable p s = leaveUpDown p s)
      ∧ let t := leaveUpDown p s
        let y := t.port p
        y.link = .down ∧ y.ready = false ∧ y.doorOpen = false ∧ y.mediaEmpty = 0 ∧ y.effWindow = 0
          ∧ y.forceOff = false ∧ y.wakeTimer = none ∧ y.hailTimer = false ∧ y.attempt = none ∧ y.idleTimer = none
          ∧ y.watchdog = none ∧ y.rateCount = 0 ∧ y.busy = false
          ∧ y.conds = { x.conds with door := false, mediaOut := false, slow := false } ∧ y.work = x.work
          ∧ (∀ q, q ≠ p → t.port q = s.port q) ∧ t.cfg = s.cfg ∧ t.jt = s.jt)

/-! ### Ports: recovery, timers, reports of the printer -/

/-- PORT_RECOVER (R120) and the timers of a port: another HAIL (R96), OFFLINE with WAKE_FAIL (R96), DOWN after the idle
time (R95), the recovery attempts and LINK_LOST (R118, R119), the end of a rate window (R105). The expiry of a timer
that does not run has no effect (log 9). -/
def Obligations.PortTimers : Prop :=
  ∀ (s : State) (p : PortNo), let x := s.port p
    let u := openAct s
    let nothing := fun (i : Instr) => Ends i s u
    let hail : Frame := { kind := 0x01, tag := 0, payload := [] }
    let attempt := fun (v : State) => (v.send p { kind := 0x05, tag := 0, payload := [] }).send p hail
    (∀ tag port : Byte, tag ≠ 0 → s.takes → port.toNat = p.val →
      let f : Frame := { kind := 0x25, tag := tag, payload := [port] }
      (x.link = .offline → Answers (.portRecover tag port) s f .ok [] (attempt
        (s.taking.portBecomes p { x with link := .recovering, attempt := some 1, effWindow := 0 })))
      ∧ (x.link = .recovering → Answers (.portRecover tag port) s f .ok []
          (attempt (s.taking.setPort p { x with attempt := some 1 })))
      ∧ (x.link ≠ .offline → x.link ≠ .recovering → Answers (.portRecover tag port) s f .wrongState [] s.taking))
    ∧ (∀ tag port : Byte, tag ≠ 0 → s.takes → 15 < port.toNat →
      Answers (.portRecover tag port) s ⟨0x25, tag, [port]⟩ .badField [] s.taking)
    ∧ (x.link = .waking → x.hailTimer = true → Ends (.hailTimerExpiry p) s (u.send p hail))
    ∧ (x.link ≠ .waking ∨ x.hailTimer = false → nothing (.hailTimerExpiry p))
    ∧ (x.link = .waking → x.wakeTimer ≠ none → Ends (.wakeTimerExpiry p) s (condOn p .wakeFail none
        (u.portBecomes p { x with link := .offline, effWindow := 0, wakeTimer := none, hailTimer := false })))
    ∧ (x.link ≠ .waking ∨ x.wakeTimer = none → nothing (.wakeTimerExpiry p))
    ∧ (x.link = .up → x.inFlight = [] → x.idleTimer ≠ none →
        Ends (.idleTimerExpiry p) s (settle (leaveUpDown p u)))
    ∧ (x.link ≠ .up ∨ x.inFlight ≠ [] ∨ x.idleTimer = none → nothing (.idleTimerExpiry p))
    ∧ (∀ k, x.link = .recovering → x.attempt = some k → k < 3 → Ends (.attemptTimerExpiry p) s
        (attempt (u.setPort p { x with attempt := some (k + 1) })))
    ∧ (∀ k, x.link = .recovering → x.attempt = some k → 3 ≤ k → Ends (.attemptTimerExpiry p) s
        (condOn p .linkLost none (u.portBecomes p { x with link := .offline, effWindow := 0, attempt := none })))
    ∧ (x.link ≠ .recovering ∨ x.attempt = none → nothing (.attemptTimerExpiry p))
    ∧ (x.link = .up →
      let slow := decide (x.busy = true ∧ (s.portCfg p).slowFloor ≠ 0 ∧ x.rateCount < (s.portCfg p).slowFloor)
      let t := u.setPort p { x with latchedRate := x.rateCount }
      Ends (.rateWindowEnd p) s ((if slow then condOn p .slow (some x.rateCount) t else condOff p .slow t).modPort p
        (fun y => { y with rateCount := 0, busy := x.usable && s.runRunning p })))
    ∧ (x.link ≠ .up → nothing (.rateWindowEnd p))

/-- HELLO, STATE and CLEAR by link state (R87): a HELLO brings a WAKING or RECOVERING link UP (R89), renews the
capabilities of an UP link with nothing in flight, and is a sequence fault with something in flight (R116); a STATE sets
the printer condition and evaluates DOOR and then MEDIA_OUT (R91, the order log 34); a CLEAR ends JAMMED (R114). A port that becomes usable
pulls and dispatches (R92). Everything else is dropped. -/
def Obligations.PrinterReports : Prop :=
  ∀ (s : State) (p : PortNo), let x := s.port p
    let u := openAct s
    let then_ := fun (w : State) =>
      if x.usable = false ∧ (w.port p).usable = true then [Task.pull p, .dispatch p, .settle] else [.settle]
    (∀ colour duplex media size maxWindow : Byte, let i := Instr.hello p colour duplex media size maxWindow
      (1 < colour.toNat ∨ 1 < duplex.toNat ∨ x.link = .down ∨ x.link = .offline → Ends i s u)
      ∧ (colour.toNat ≤ 1 → duplex.toNat ≤ 1 →
        let w := max 1 (min 32 maxWindow.toNat)
        let y := { x with
          caps := some { colour := if colour = 1 then .color else .mono, duplex := duplex == 1, media := media
                         size := size }
          maxWindow := some w, effWindow := max (min (s.portCfg p).window w) x.inFlight.length, rateCount := 0 }
        (x.link = .waking ∨ x.link = .recovering →
          let z := { y with link := .up, wakeTimer := none, hailTimer := false, attempt := none }
          Ends i s (settle (condOff p .wakeFail (condOff p .linkLost (condOff p .stall
            (u.portBecomes p { z with busy := z.usable && s.runRunning p }))))))
        ∧ (x.link = .up → x.inFlight = [] → Ends i s (cascade
            (if x.usable = true ∧ x.run = none then [.pull p, .settle] else [.settle])
            (u.setPort p { y with busy := x.usable && s.runRunning p })))
        ∧ (x.link = .up → x.inFlight ≠ [] → Ends i s (cascade (stall p 1 u).2 (stall p 1 u).1))))
    ∧ (∀ ready door media : Byte, let i := Instr.state p ready door media
      (1 < ready.toNat ∨ 1 < door.toNat ∨ x.link ≠ .up → Ends i s u)
      ∧ (ready.toNat ≤ 1 → door.toNat ≤ 1 → x.link = .up →
        let y := { x with ready := ready == 1, doorOpen := door == 1, mediaEmpty := media }
        let w := evalMedia p (evalDoor p (if y = x then u else u.portBecomes p y))
        Ends i s (cascade (then_ w) w)
          ∧ (w.port p).conds.door = (door == 1)
          ∧ (w.port p).conds.mediaOut = (match s.runJob p with
              | some j => media.getLsbD j.media.val
              | none => false)))
    ∧ (x.link = .up → x.jammed = true →
        let w := condOff p .jam (u.portBecomes p { x with jammed := false })
        Ends (.clear p) s (cascade (then_ w) w))
    ∧ (x.link ≠ .up ∨ x.jammed = false → Ends (.clear p) s u)

/-- A sheet on its way: the end of its transfer makes its record SENT and arms the watchdog (R102, R115), a TAKEN of the
newest record makes it TAKEN (R103), an OUT of the oldest delivers it: the record leaves, the job, the account and the
port are counted up, the reservation moves to charged (R40, R104, R106, R141), a job whose last sheet this was is DONE
(R43). Any other TAKEN or OUT on an UP link is a sequence fault (R116); on any other link they are dropped (R87). -/
def Obligations.SheetsDelivered : Prop :=
  ∀ (s : State) (p : PortNo) (tag : Byte), let x := s.port p
    let u := openAct s
    let armed := if (s.portCfg p).progress = 0 then none else some (s.portCfg p).progress
    let fault := fun (i : Instr) => Ends i s (cascade (stall p 1 u).2 (stall p 1 u).1)
    (∀ l f, x.inFlight = l ++ [f] → f.stage = .sending →
      Ends (.transferEnd p) s { u.setPort p { x with
        inFlight := l ++ [{ f with stage := .sent }], transfer := [], watchdog := armed } with
          pressOut := x.transfer.map (fun g => (p, g)) })
    ∧ ((∀ f ∈ x.inFlight.getLast?, f.stage ≠ .sending) → Ends (.transferEnd p) s u)
    ∧ (x.link ≠ .up → Ends (.taken p tag) s u ∧ Ends (.out p tag) s u)
    ∧ (x.link = .up →
      (∀ l f, x.inFlight = l ++ [f] → f.stage = .sent → f.tag = tag →
        Ends (.taken p tag) s (cascade [.dispatch p, .settle] (u.setPort p { x with
          inFlight := l ++ [{ f with stage := .taken }], watchdog := armed })))
      ∧ ((∀ f ∈ x.inFlight.getLast?, f.stage ≠ .sent ∨ f.tag ≠ tag) → fault (.taken p tag))
      ∧ ((∀ f ∈ x.inFlight.head?, f.stage ≠ .taken ∨ f.tag ≠ tag) → fault (.out p tag))
      ∧ ∀ f rest j, x.inFlight = f :: rest → f.stage = .taken → f.tag = tag → s.job? f.job = some j →
        let a := s.account j.account
        let r := s.reservation j.account
        let k := { j with
          delivered := min 4294967295 (j.delivered + 1), inFlight := j.inFlight - 1, pinned := true
          impressions := min 4294967295 (j.impressions + f.sides)
          charged := min 281474976710655 (j.charged + f.charge) }
        let y := { x with
          inFlight := rest, rateCount := min 255 (x.rateCount + 1)
          effWindow := max (min (s.portCfg p).window (x.maxWindow.getD 0)) rest.length
          watchdog := if rest.any (fun g => g.stage != .sending) then armed else none
          meters := { x.meters with
            sheets := min 4294967295 (x.meters.sheets + 1)
            impressions := min 4294967295 (x.meters.impressions + f.sides) } }
        let w := (((u.setPort p y).modJob f.job (fun _ => k)).setAccount j.account { a with
            periodCharged := min 4294967295 (a.periodCharged + f.charge)
            lifeCharged := min 281474976710655 (a.lifeCharged + f.charge)
            periodImpressions := min 4294967295 (a.periodImpressions + f.sides)
            lifeImpressions := min 281474976710655 (a.lifeImpressions + f.sides)
            periodSheets := min 4294967295 (a.periodSheets + 1) }).setReservation j.account
              { mills := r.mills - f.charge, impressions := r.impressions - f.sides }
        Ends (.out p tag) s (cascade [.runEnd p .out, .dispatch p, .settle] w)
          ∧ (j.state = .running ∨ j.state = .starved → x.run = some f.job → x.usable = false →
            ¬ (j.dataClosed = true ∧ j.total = some k.delivered) → Ends (.out p tag) s (settle w))
          ∧ (j.state = .running ∨ j.state = .starved ∨ j.state = .draining → s.runsAt p f.job → s.nobodyWaits p →
            j.dataClosed = true → j.total = some k.delivered →
            Ends (.out p tag) s (settle ((evalMedia p (w.modPort p (fun x => { x with
              run := none, busy := false }))).finishes f.job .done .delivery))))

/-- A JAM on an UP link (R112) counts the spoiled sheets, never more than were TAKEN, empties the in-flight list, and sets
JAMMED and the JAM condition; a further one repeats the report (R113). The progress watchdog stalls the port (R115), and
a stall (R117), whatever its detail, counts the TAKEN sheets as doubtful, empties the list, and takes the link to
RECOVERING with its first attempt, or to DOWN under FORCE_OFF (R94). Both rewind the run job, if there is one (R109): the
reservation is released (R142), the cursor is back at the delivered count, a RUNNING or STARVED job is tested (R41), and
a cancel or a drain ends in the same act (R47, R49, R72, R83), the port being not usable by then (log 22, log 29). What
follows from a drain that ends in QUEUED is left to the cascade. The notice of a drain for SUSPEND_HOST that ends here has
reason FAULT (R47), where R79 says PORT (log 33). That the expiry of a watchdog that does not run has no
effect is log 9, the evaluation that ends the act log 6. -/
def Obligations.JamAndStall : Prop :=
  ∀ (s : State) (p : PortNo) (location spoiled : Byte), let x := s.port p
    let u := openAct s
    (15 < location.toNat ∨ x.link ≠ .up → Ends (.jam p location spoiled) s u)
    ∧ (x.link ≠ .up ∨ x.watchdog = none → Ends (.progressWatchdogExpiry p) s u)
    ∧ (x.link = .up → x.watchdog ≠ none →
      Ends (.progressWatchdogExpiry p) s (cascade (stall p 0 u).2 (stall p 0 u).1))
    ∧ (x.link = .up → x.jammed = true → location.toNat ≤ 15 →
      Ends (.jam p location spoiled) s (alertRepeat (entryNo p .jam) location.toNat u))
    ∧ (∀ w detail, let z := w.port p
      let t := stallTail p detail w
      z.link = .recovering →
        (t.port p).ready = false ∧ (t.port p).doorOpen = false ∧ (t.port p).mediaEmpty = 0 ∧ (t.port p).rateCount = 0
          ∧ (t.port p).busy = false ∧ (t.port p).conds.stall = true ∧ (t.port p).conds.door = false
          ∧ (t.port p).conds.mediaOut = false ∧ (t.port p).conds.slow = false
          ∧ (z.wakeMode = .forceOff → (t.port p).link = .down ∧ t.pressOut = w.pressOut)
          ∧ (z.wakeMode ≠ .forceOff → (t.port p).link = .recovering ∧ (t.port p).attempt = some 1
            ∧ t.pressOut = w.pressOut ++ [(p, { kind := 0x05, tag := 0, payload := [] }),
                (p, { kind := 0x01, tag := 0, payload := [] })]))
    ∧ (x.link = .up →
      let taken := x.inFlight.countP (fun f => f.stage == .taken)
      let d := min taken spoiled.toNat
      let y := { x with
        inFlight := [], transfer := [], watchdog := none
        effWindow := min (s.portCfg p).window (x.maxWindow.getD 0) }
      let jammed := { y with
        jammed := true, meters := { x.meters with spoiled := min 4294967295 (x.meters.spoiled + d) } }
      let stalled := { y with
        link := .recovering, effWindow := 0
        meters := { x.meters with doubtful := min 4294967295 (x.meters.doubtful + taken) } }
      let jams := fun (tasks : List Task) (w : State) => x.jammed = false → location.toNat ≤ 15 →
        Ends (.jam p location spoiled) s (cascade (tasks ++ [.jamOn p location.toNat, .settle]) w)
      let jamEnds := fun (w : State) => x.jammed = false → location.toNat ≤ 15 →
        Ends (.jam p location spoiled) s (settle (condOn p .jam (some location.toNat) w))
      let stallEnds := fun (w : State) => ∀ detail,
        cascade (stall p detail u).2 (stall p detail u).1 = settle (stallTail p detail w)
      ((∀ n, x.run = some n → s.job? n = none) →
        jamEnds (u.portBecomes p jammed) ∧ stallEnds (u.portBecomes p stalled))
      ∧ ∀ n j, x.run = some n → s.job? n = some j →
        let live := j.state = .running ∨ j.state = .starved
        let st := if j.state = .running ∨ j.state = .starved then
            (if j.dataClosed = false ∧ j.delivered = j.limit then JobState.starved else .running)
          else j.state
        let a := s.account j.account
        let r := s.reservation j.account
        let lost := fun (y : Port) (k : Job) (b : Account) =>
          let y := { y with busy := x.busy && (decide (st ≠ .starved) || decide (st = j.state)) }
          let k := { k with cursor := j.delivered, inFlight := 0, state := st }
          let v := ((u.setPort p y).modJob n (fun _ => k)).setAccount j.account b
          let v := v.setReservation j.account
            { mills := r.mills - (x.inFlight.map (fun f => f.charge)).sum
              impressions := r.impressions - (x.inFlight.map (fun f => f.sides)).sum }
          (if st = j.state then v else v.noteJob n .fault).notePort p
        let jam := lost jammed { j with spoiled := min 4294967295 (j.spoiled + d) }
          { a with periodWaste := min 4294967295 (a.periodWaste + d) }
        let down := lost stalled { j with doubtful := min 4294967295 (j.doubtful + taken) }
          { a with periodDoubtful := min 4294967295 (a.periodDoubtful + taken) }
        (j.state = .running → st = .starved → s.runsAt p n) →
        jams [.runEnd p .rewind] jam
        ∧ (∀ detail, stall p detail u = (down, [.runEnd p .rewind, .stallTail p detail, .settle]))
        ∧ let ends := fun (fin : State → State) => jamEnds (fin jam) ∧ stallEnds (fin down)
          let left := fun (w : State) => evalMedia p (w.modPort p (fun x => { x with run := none, busy := false }))
          let becomes := fun (now : JobState) (w : State) =>
            (w.modJob n (fun j => { j with purpose := none, state := now })).noteJob n .fault
          let whole := j.dataClosed = true ∧ j.total = some j.delivered
          let staying := x.inc = none ∧ ∀ v ∈ x.susp, v.reason = .host
          (live → ends id)
          ∧ (j.state = .cancelling → s.runsAt p n → staying → ends (fun w => (left w).finishes n .cancelled .fault))
          ∧ (j.state = .draining → whole → s.runsAt p n → staying → ends (fun w => (left w).finishes n .done .fault))
          ∧ (j.state = .draining → ¬ whole → j.holds.isEmpty = false → s.runsAt p n → staying →
            ends (fun w => becomes .held (left w)))
          ∧ (j.state = .draining → ¬ whole → j.holds.isEmpty = true → j.purpose = some .suspendHost → s.runsAt p n →
            x.inc = none → ends (fun w => becomes .suspended ((left w).modPort p (fun x => { x with
              susp := some { job := n, reason := .host } }))))
          ∧ ∀ m, j.state = .draining → ¬ whole → j.holds.isEmpty = true → j.purpose = some .suspendInsert →
            s.runsAt p n → x.inc = some m → ends (fun w => enterRun p m ((becomes .suspended ((left w).modPort p
              (fun x => { x with susp := some { job := n, reason := .insert } }))).modPort p
                (fun x => { x with inc := none }))))

/-! ### Tariffs -/

/-- TARIFF_SET writes one figure (Table 8-2), into the STAGED sheet, or in DIRECT mode into the ACTIVE sheet where that
leaves it consistent, and its reply carries the consistency result (R123). TARIFF_MODE (R124) and TARIFF_QUERY (R125). -/
def Obligations.TariffEdits : Prop :=
  ∀ (tag : Byte) (s : State), tag ≠ 0 → s.takes →
    (∀ which : Byte, let f : Frame := { kind := 0x29, tag := tag, payload := [which] }
      (which.toNat ≤ 1 →
        let t := if which = 0 then s.cfg.active else s.cfg.staged
        let contents := t.base.toList.flatMap be16 ++ t.size.toList.map (BitVec.ofNat 8) ++ be8 t.second
          ++ be32 t.t1 ++ be32 t.t2 ++ be32 t.t3 ++ t.discount.toList.map (BitVec.ofNat 8) ++ be8 t.check
          ++ [if s.cfg.direct then 1 else 0]
          ++ (match s.cfg.schedule with
              | none => [0, 0, 0, 0, 0, 0]
              | some x => [1] ++ be32 x.time ++ [if x.close then 1 else 0])
        contents.length = 65 ∧ Answers (.tariffQuery tag which) s f .ok contents s.taking)
      ∧ (1 < which.toNat → Answers (.tariffQuery tag which) s f .badField [] s.taking))
    ∧ (s.ss.saving = none →
      (∀ mode : Byte, let f : Frame := { kind := 0x2A, tag := tag, payload := [mode] }
        (∀ d : Bool, mode.toNat = (if d then 1 else 0) →
          (s.cfg.direct = d → Answers (.tariffMode tag mode) s f .already [] s.taking)
          ∧ (s.cfg.direct ≠ d → Answers (.tariffMode tag mode) s f .ok []
              { s.taking with cfg := { s.cfg with direct := d } }))
        ∧ (1 < mode.toNat → Answers (.tariffMode tag mode) s f .badField [] s.taking))
      ∧ ∀ (item index : Byte) (value : Word),
        let i := Instr.tariffSet tag item index value
        let f : Frame := { kind := 0x28, tag := tag, payload := [item, index] ++ be32 value.toNat }
        let v := value.toNat
        let puts := fun (edit : Tariff → Tariff) =>
          (s.cfg.direct = false → Answers i s f .ok [BitVec.ofNat 8 (edit s.cfg.staged).check]
            { s.taking with cfg := { s.cfg with staged := edit s.cfg.staged } })
          ∧ (s.cfg.direct = true → (edit s.cfg.active).check = 0 → Answers i s f .ok [0]
            { s.taking with cfg := { s.cfg with active := edit s.cfg.active } })
          ∧ (s.cfg.direct = true → (edit s.cfg.active).check ≠ 0 → Answers i s f .invalidTariff [] s.taking)
        (∀ k : Fin 16, item = 0 → index.toNat = k.val → v ≤ 65535 → puts (fun t => { t with base := t.base.set k v }))
        ∧ (∀ k : Fin 8, item = 1 → index.toNat = k.val → v ≤ 255 → puts (fun t => { t with size := t.size.set k v }))
        ∧ (item = 2 → index = 0 → v ≤ 16 → puts (fun t => { t with second := v }))
        ∧ (item = 3 → index = 0 → puts (fun t => { t with t1 := v }))
        ∧ (item = 3 → index = 1 → puts (fun t => { t with t2 := v }))
        ∧ (item = 3 → index = 2 → puts (fun t => { t with t3 := v }))
        ∧ (∀ k : Fin 4, item = 4 → index.toNat = k.val → v ≤ 100 →
            puts (fun t => { t with discount := t.discount.set k v }))
        ∧ (4 < item.toNat ∨ (item = 0 ∧ (15 < index.toNat ∨ 65535 < v)) ∨ (item = 1 ∧ (7 < index.toNat ∨ 255 < v))
            ∨ (item = 2 ∧ (index ≠ 0 ∨ 16 < v)) ∨ (item = 3 ∧ 2 < index.toNat)
            ∨ (item = 4 ∧ (3 < index.toNat ∨ 100 < v)) → Answers i s f .badField [] s.taking))

/-- The cutover (R126 to R129): NOW copies the STAGED sheet into the ACTIVE one when it passes the check and closes every
period when the close flag says so; AT holds a schedule, CANCEL drops it; at the increment of the clock that reaches
its time it falls due, and is made or reported failed, and is absent either way. -/
def Obligations.Cutovers : Prop :=
  ∀ s : State,
    let moved := fun (t : State) => { t with cfg := { t.cfg with active := t.cfg.staged } }
    let closed := fun (t : State) => { t with cfg := { t.cfg with accounts := t.cfg.accounts.map (fun (a : Account) => { a with
      periodCharged := 0, periodImpressions := 0, periodSheets := 0, periodWaste := 0, periodDoubtful := 0
      periodOpened := t.mlc.clock }) } }
    let clears := ((List.finRange 128).flatMap (fun a =>
      (s.jt.jobs.filter (fun j => j.account == a)).map (fun j => Task.creditClear j.num))) ++ [.settle]
    (∀ (tag flags : Byte) (time : Word), tag ≠ 0 → s.takes → s.ss.saving = none →
      let now : Frame := { kind := 0x2B, tag := tag, payload := [0, flags] ++ be32 time.toNat }
      let sched : Frame := { kind := 0x2B, tag := tag, payload := [1, flags] ++ be32 time.toNat }
      let stop : Frame := { kind := 0x2B, tag := tag, payload := [2, flags] ++ be32 time.toNat }
      let i := Instr.tariffCutoverNow tag flags time
      (flags.toNat ≤ 1 → time ≠ 0 → Answers i s now .badField [] s.taking)
      ∧ (flags.toNat ≤ 1 → time = 0 → s.cfg.staged.check ≠ 0 → Answers i s now .invalidTariff [] s.taking)
      ∧ (flags = 0 → time = 0 → s.cfg.staged.check = 0 →
          Answers i s now .ok [] ((moved s.taking).note 0x73 [0, 0, 0, 0]))
      ∧ (flags = 1 → time = 0 → s.cfg.staged.check = 0 →
          AnswersThen i s now [] clears ((closed (moved s.taking)).note 0x73 [0, 0, 0, 1]))
      ∧ (flags.toNat ≤ 1 → Answers (.tariffCutoverAt tag flags time) s sched .ok []
          { s.taking with cfg := { s.cfg with schedule := some { time := time.toNat, close := flags == 1 } } })
      ∧ (flags = 0 → time = 0 → s.cfg.schedule ≠ none → Answers (.tariffCutoverCancel tag flags time) s stop .ok []
          { s.taking with cfg := { s.cfg with schedule := none } })
      ∧ (flags = 0 → time = 0 → s.cfg.schedule = none →
          Answers (.tariffCutoverCancel tag flags time) s stop .already [] s.taking)
      ∧ (flags = 1 ∨ (flags = 0 ∧ time ≠ 0) →
          Answers (.tariffCutoverCancel tag flags time) s stop .badField [] s.taking)
      ∧ (1 < flags.toNat → Answers i s now .badField [] s.taking
          ∧ Answers (.tariffCutoverAt tag flags time) s sched .badField [] s.taking
          ∧ Answers (.tariffCutoverCancel tag flags time) s stop .badField [] s.taking))
    ∧ ∀ x, s.cfg.schedule = some x → x.time ≤ s.nextClock →
      let t := countSecond (openAct s)
      let t := { t with cfg := { t.cfg with schedule := none } }
      let ends := fun (w : State) => Ends .cutoverScheduleDue s w ∧ Ends .shopClockTick s w
      (s.cfg.staged.check ≠ 0 → ends (t.note 0x73 [1, BitVec.ofNat 8 s.cfg.staged.check, 1, 0]))
      ∧ (s.cfg.staged.check = 0 → x.close = false → ends ((moved t).note 0x73 [0, 0, 1, 0]))
      ∧ (s.cfg.staged.check = 0 → x.close = true →
          ends (cascade clears ((closed (moved t)).note 0x73 [0, 0, 1, 1])))

/-! ### Accounts -/

/-- ACCOUNT_SET replaces the flags and the limit, ACCOUNT_CLOSE zeroes the period counters and reports them, and both
make a credit clear for the account (the close of all accounts after it has zeroed them all, log 17); ACCOUNT_QUERY
reports 52 bytes (R136, R137, R138). A credit clear takes CREDIT from a job and queues a HELD job left with no reason
(R46, R144). -/
def Obligations.AccountRequests : Prop :=
  ∀ s : State,
    let clears := fun (a : Fin 128) =>
      (s.jt.jobs.filter (fun j => j.account == a)).map (fun j => Task.creditClear j.num)
    let restart := fun (x : Account) => { x with
      periodCharged := 0, periodImpressions := 0, periodSheets := 0, periodWaste := 0, periodDoubtful := 0
      periodOpened := s.mlc.clock }
    (∀ tag account : Byte, tag ≠ 0 → s.takes →
      let query : Frame := { kind := 0x2D, tag := tag, payload := [account] }
      let close : Frame := { kind := 0x2E, tag := tag, payload := [account] }
      (∀ a : Fin 128, account.toNat = a.val → let x := s.account a
        let jobs := s.jt.jobs.filter (fun j => j.account == a)
        let counts := be32 x.periodCharged ++ be32 x.periodImpressions ++ be32 x.periodSheets ++ be32 x.periodWaste
          ++ be32 x.periodDoubtful
        let contents := [account, BitVec.ofNat 8 ((if x.isOpen then 1 else 0) + (if x.limited then 2 else 0)
              + (if x.fixed then 4 else 0) + (if x.exempt then 8 else 0))]
          ++ be32 x.limit ++ counts ++ be32 (s.reservation a).mills ++ be16 (s.reservation a).impressions
          ++ be48 x.lifeCharged ++ be48 x.lifeImpressions ++ be32 x.periodOpened ++ be16 jobs.length
          ++ be16 (jobs.countP (fun j => j.holds.credit))
        contents.length = 52 ∧ Answers (.accountQuery tag account) s query .ok contents s.taking
          ∧ AnswersThen (.accountClose tag account) s close (counts ++ be32 x.periodOpened ++ be32 s.mlc.clock)
              (clears a ++ [.settle]) (s.taking.setAccount a (restart x)))
      ∧ (127 < account.toNat → Answers (.accountQuery tag account) s query .badField [] s.taking)
      ∧ (account = 255 → AnswersThen (.accountClose tag account) s close []
          ((List.finRange 128).flatMap clears ++ [.settle])
          { s.taking with cfg := { s.cfg with accounts := s.cfg.accounts.map restart } })
      ∧ (127 < account.toNat → account ≠ 255 → Answers (.accountClose tag account) s close .badField [] s.taking)
      ∧ ∀ (flags : Byte) (limit : Word), s.ss.saving = none →
        let f : Frame := { kind := 0x2C, tag := tag, payload := [account, flags] ++ be32 limit.toNat }
        let i := Instr.accountSet tag account flags limit
        (127 < account.toNat ∨ 15 < flags.toNat → Answers i s f .badField [] s.taking)
        ∧ ∀ a : Fin 128, account.toNat = a.val → flags.toNat ≤ 15 →
          AnswersThen i s f [] (clears a ++ [.settle]) (s.taking.setAccount a { s.account a with
            isOpen := flags.getLsbD 0, limited := flags.getLsbD 1, fixed := flags.getLsbD 2
            exempt := flags.getLsbD 3, limit := limit.toNat }))
    ∧ ∀ n j, s.job? n = some j →
      let freed := fun (j : Job) => { j with holds := { j.holds with credit := false } }
      (j.state ≠ .held ∨ j.holds.host = true ∨ j.holds.panel = true → creditClear n s = (s.modJob n freed, []))
      ∧ (j.state = .held → j.holds.host = false → j.holds.panel = false → s.slotless n →
        let joined := fun (j : Job) => { freed j with queueEntry := some s.mlc.clock, state := .queued }
        (∀ b, j.pinned = true → j.bound = some b → creditClear n s =
          (((s.modPort b (fun x => { x with pinnedQ := x.pinnedQ ++ [n] })).modJob n joined).noteJob n .credit,
            [.pull b]))
        ∧ (j.pinned = false →
          let t := s.modJob n (fun j => { freed j with queueEntry := some s.mlc.clock })
          let q := placeInQueue t { freed j with queueEntry := some s.mlc.clock } (s.queue j.dest)
          creditClear n s = (((s.setQueue j.dest q).modJob n joined).noteJob n .credit, [.offer n])))

/-! ### Alerts, lamps, horn -/

/-- The transitions of an alert entry (R148, R149): what each report and each acknowledgement makes of the entry, the
announcement list and the notices, nothing else changing; a report that finds the entry already so sets its condition and
detail alone, with no transition, and an acknowledgement that does changes nothing. -/
def Obligations.AlertTransitions : Prop :=
  ∀ (s : State) (e : EntryNo) (detail : Option Nat) (by_ : AckBy), let a := s.alert e
    let kept := match detail with
      | some d => some d
      | none => a.detail
    let raised := { a with
      on := true, state := .raised, detail := kept, raiseTime := s.mlc.clock, raiseCount := min 255 (a.raiseCount + 1)
      ackedBy := none, raisedAt := s.base.now }
    let latched := (e.val % 7 < 4 ∧ e.val ≠ 112)
    (a.state = .quiet → AlertMoves s (alertOn e detail s) e raised (s.au.announced ++ [e]) true 0)
    ∧ (a.state = .linger → AlertMoves s (alertOn e detail s) e raised s.au.announced true 4)
    ∧ (a.state = .raised → latched → AlertMoves s (alertOff e s) e
        { a with on := false, state := .linger, raisedAt := 0 } s.au.announced false 2)
    ∧ (a.state = .raised → ¬ latched → AlertMoves s (alertOff e s) e
        { a with on := false, state := .quiet, raisedAt := 0 } (s.au.announced.erase e) false 3)
    ∧ (a.state = .acked → AlertMoves s (alertOff e s) e { a with on := false, state := .quiet } s.au.announced false 3)
    ∧ (∀ d, a.state = .acked → AlertMoves s (alertRepeat e d s) e { a with
        state := .raised, detail := some d, raiseTime := s.mlc.clock, raiseCount := min 255 (a.raiseCount + 1)
        ackedBy := none, raisedAt := s.base.now } (s.au.announced ++ [e]) true 4)
    ∧ (∀ d, a.state = .raised → AlertMoves s (alertRepeat e d s) e { a with
        detail := some d, raiseCount := min 255 (a.raiseCount + 1) } s.au.announced false 4)
    ∧ (a.state = .raised → AlertMoves s (alertAck e by_ s) e
        { a with state := .acked, ackedBy := some by_, raisedAt := 0 } (s.au.announced.erase e) false 1)
    ∧ (a.state = .linger → AlertMoves s (alertAck e by_ s) e
        { a with state := .quiet, ackedBy := some by_ } (s.au.announced.erase e) false 5)
    ∧ (a.state = .quiet ∨ a.state = .acked → alertAck e by_ s = s)
    ∧ (a.state = .raised ∨ a.state = .acked →
        alertOn e detail s = s.setAlert e { a with on := true, detail := kept })
    ∧ (a.state = .quiet ∨ a.state = .linger →
        alertOff e s = s.setAlert e { a with on := false }
        ∧ ∀ d, alertRepeat e d s = s.setAlert e { a with detail := some d })

/-- The lamps of a port in AUTO (R154), and the alert, lamp and horn commands: ALERT_QUERY (R153), ALERT_ACK of one
entry or of all, and the panel ACK (R152, R163), HORN_SILENCE and the panel SILENCE (R157), LAMP_MODE and LAMP_SET
(R155), the moment at which an entry has spent the escalation time in RAISED on the time base (R156); a moment beyond the
next increment of the clock cannot come before it (log 10). -/
def Obligations.AlertCommands : Prop :=
  ∀ s : State,
    let report := fun (e : EntryNo) => let a := s.alert e
      [BitVec.ofNat 8 e.val, BitVec.ofNat 8 a.state.code, BitVec.ofNat 8 ((if a.on then 1 else 0)
          + (if a.detail.isSome then 2 else 0) + (if a.ackedBy.isSome then 4 else 0))] ++ be32 a.raiseTime
        ++ [BitVec.ofNat 8 a.raiseCount] ++ be32 (a.detail.getD 0)
        ++ [match a.ackedBy with
            | none => 255
            | some .host => 8
            | some (.panel q) => BitVec.ofNat 8 q.val]
    let quieted := fun (t : State) => { t with au := { t.au with silenced := true, horn := false } }
    (∀ p : PortNo, let l := s.lampsNow p
      let some_ := fun (ks : List AlertKind) (sts : List AlertState) =>
        ∃ k ∈ ks, (s.alert (entryNo p k)).state ∈ sts
      let latched := [AlertKind.jam, .stall, .linkLost, .wakeFail]
      let x := s.port p
      (l.red = .flash ↔ some_ latched [.raised, .linger])
      ∧ (l.red = .steady ↔ ¬ some_ latched [.raised, .linger] ∧ some_ latched [.acked])
      ∧ (l.amber = .steady ↔ some_ [.mediaOut, .slow, .door] [.raised, .acked]
          ∨ x.pauseHost = true ∨ x.pausePanel = true ∨ x.wakeMode = .forceOff) ∧ l.amber ≠ .flash
      ∧ (l.green = .steady ↔ x.usable = true ∧ ∃ n j, x.run = some n ∧ s.job? n = some j ∧ j.state = .running)
      ∧ l.green ≠ .flash)
    ∧ (∀ e : EntryNo, let u := openAct s
      let moment := (s.alert e).raisedAt + s.cfg.escalation * Config.second
      let next := s.base.secondAt + Config.second
      ((s.alert e).state ≠ .raised ∨ s.cfg.escalation = 0 ∨ next < moment → Ends (.escalationReached e) s u)
      ∧ ((s.alert e).state = .raised → s.cfg.escalation ≠ 0 → moment ≤ next →
        Ends (.escalationReached e) s { u with
          base := { u.base with now := max u.base.now moment }
          au := { s.au with horn := !s.au.silenced } }))
    ∧ (∀ (a : Fin 8) (number : Byte) (argument : Half), let b : Byte := BitVec.ofNat 8 a.val
      (s.awaits a .ack number 2 →
        (s.au.silenced = true →
          PanelRefused (.panelSilence b number argument) s a number 2 argument.toNat .already)
        ∧ (s.au.silenced = false →
          PanelDoes (.panelSilence b number argument) s a number 2 argument.toNat id quieted))
      ∧ (s.awaits a .ack number 1 → ∀ e : EntryNo, argument.toNat = e.val →
        ((s.alert e).state = .quiet ∨ (s.alert e).state = .acked →
          PanelRefused (.panelAck b number argument) s a number 1 e.val .already)
        ∧ ((s.alert e).state = .raised ∨ (s.alert e).state = .linger →
          PanelDoes (.panelAck b number argument) s a number 1 e.val id (alertAck e (.panel a)))))
    ∧ ∀ tag : Byte, tag ≠ 0 → s.takes →
      ((s.au.silenced = true → Answers (.hornSilence tag) s ⟨0x32, tag, []⟩ .already [] s.taking)
        ∧ (s.au.silenced = false → Answers (.hornSilence tag) s ⟨0x32, tag, []⟩ .ok [] (quieted s.taking)))
      ∧ (∀ entry : Byte, let i := Instr.alertAck tag entry
        let f : Frame := { kind := 0x31, tag := tag, payload := [entry] }
        (∀ e : EntryNo, entry.toNat = e.val →
          ((s.alert e).state = .quiet ∨ (s.alert e).state = .acked → Answers i s f .already [] s.taking)
          ∧ ((s.alert e).state = .raised → Answers i s f .ok [2] (alertAck e .host s.taking))
          ∧ ((s.alert e).state = .linger → Answers i s f .ok [0] (alertAck e .host s.taking)))
        ∧ (entry = 255 → s.au.announced = [] → Answers i s f .already [] s.taking)
        ∧ (entry = 255 → s.au.announced ≠ [] → Answers i s f .ok [BitVec.ofNat 8 s.au.announced.length]
            (s.au.announced.foldl (fun t e => alertAck e .host t) s.taking))
        ∧ (112 < entry.toNat → entry ≠ 255 → Answers i s f .badField [] s.taking))
      ∧ (∀ selector : Byte, let i := Instr.alertQuery tag selector
        let f : Frame := { kind := 0x30, tag := tag, payload := [selector] }
        (∀ e : EntryNo, selector.toNat = e.val →
          (report e).length = 13 ∧ Answers i s f .ok (report e) s.taking)
        ∧ (∀ p : PortNo, selector.toNat = 128 + p.val → let l := (s.port p).lamps
          Answers i s f .ok ([BitVec.ofNat 8 p.val, if (s.portCfg p).lampHost then 1 else 0,
              BitVec.ofNat 8 l.red.code, BitVec.ofNat 8 l.amber.code, BitVec.ofNat 8 l.green.code]
            ++ ((List.finRange 113).filter (fun e => decide (e.val / 7 = p.val))).flatMap report) s.taking)
        ∧ (selector = 255 → Answers i s f .ok ([if s.au.horn then 1 else 0, if s.au.silenced then 1 else 0,
              BitVec.ofNat 8 s.cfg.escalation, BitVec.ofNat 8 s.au.announced.length]
            ++ s.au.announced.map (fun e => BitVec.ofNat 8 e.val)) s.taking)
        ∧ ((112 < selector.toNat ∧ selector.toNat < 128) ∨ (143 < selector.toNat ∧ selector ≠ 255) →
          Answers i s f .badField [] s.taking))
      ∧ (∀ port mode : Byte, s.ss.saving = none → let i := Instr.lampMode tag port mode
        let f : Frame := { kind := 0x33, tag := tag, payload := [port, mode] }
        (15 < port.toNat ∨ 1 < mode.toNat → Answers i s f .badField [] s.taking)
        ∧ ∀ p : PortNo, port.toNat = p.val → mode.toNat ≤ 1 →
          ((s.portCfg p).lampHost = (mode == 1) → Answers i s f .already [] s.taking)
          ∧ ((s.portCfg p).lampHost = false → mode = 1 → Answers i s f .ok []
              (s.taking.setPortCfg p { s.portCfg p with lampHost := true }))
          ∧ ((s.portCfg p).lampHost = true → mode = 0 → Answers i s f .ok []
              ((s.taking.setPortCfg p { s.portCfg p with lampHost := false }).modPort p
                (fun x => { x with lamps := s.lampsNow p }))))
      ∧ ∀ port red amber green : Byte, let i := Instr.lampSet tag port red amber green
        let f : Frame := { kind := 0x34, tag := tag, payload := [port, red, amber, green] }
        (15 < port.toNat ∨ 2 < red.toNat ∨ 2 < amber.toNat ∨ 2 < green.toNat → Answers i s f .badField [] s.taking)
        ∧ ∀ (p : PortNo) (r a g : Lamp), port.toNat = p.val → red.toNat = r.code → amber.toNat = a.code →
          green.toNat = g.code →
          ((s.portCfg p).lampHost = false → Answers i s f .wrongState [] s.taking)
          ∧ ((s.portCfg p).lampHost = true → Answers i s f .ok []
              (s.taking.modPort p (fun x => { x with lamps := { red := r, amber := a, green := g } })))

/-! ### Panels -/

/-- The panel bus (R160, R161, R162): the panel a POLL goes to and what the POLL carries; a miss, and the third in a row;
a good reply of a panel that was ABSENT, whose "present" notice is handed over ahead of the action's own (a PORT_EVENT of
the act still goes out first, log 32); a NONE and a repetition, which change nothing more; an action code above 9, an
entry or a port out of range, and an action above the panel's rights, which are refused in that order. That a
POLL_REPLY_TIMEOUT with no reply awaited has no effect is log 9; the moment of a poll and the place of the round are log
11, the time before a command log 10, the absent fields of a POLL log 21, commands that are not well formed log 24. -/
def Obligations.PanelBus : Prop :=
  ∀ s : State, let u := openAct s
    let due := fun (a : Fin 8) => (s.panelCfg a).fitted = true
      ∧ ((s.panel a).present = true ∨ ∀ t ∈ (s.panel a).polledAt, t + 2 * Config.second ≤ u.base.now)
    (s.pbc.awaiting ≠ none ∨ (∀ a, ¬ due a) → Ends .poll s u)
    ∧ (∀ a, s.pbc.awaiting = none → due a →
      (s.pbc.roundNext ≤ a.val ∧ (∀ b < a, s.pbc.roundNext ≤ b.val → ¬ due b))
        ∨ ((∀ b, s.pbc.roundNext ≤ b.val → ¬ due b) ∧ ∀ b < a, ¬ due b) →
      let labels := match s.au.announced.head?.bind portOf with
        | some p => ((List.finRange 32).filter (fun d => (s.dest d).members.contains p)).map (fun d => (s.dest d).label)
        | none => []
      let head := match s.au.announced with
        | [] => [255, 255, 0, 255, 0, 0, 0, 0, 0, 0, 0, 0]
        | e :: _ => [BitVec.ofNat 8 e.val, BitVec.ofNat 8 (kindOf e).code, BitVec.ofNat 8 (s.alert e).state.code,
            if e.val = 112 then 255 else BitVec.ofNat 8 (e.val / 7)] ++ be32 (s.alert e).raiseTime
          ++ be32 ((s.alert e).detail.getD 0)
      let payload := [BitVec.ofNat 8 s.au.announced.length] ++ head ++ [BitVec.ofNat 8 labels.length]
        ++ labels.flatMap (fun l => l ++ List.replicate (16 - l.length) 0)
        ++ [BitVec.ofNat 8 ((if s.au.horn then 1 else 0) + (if s.au.silenced then 2 else 0))]
        ++ (match (s.panel a).lastAction with
            | none => [0, 0, 0, 0, 255]
            | some r => [r.number, r.code] ++ be16 r.argument ++ [BitVec.ofNat 8 r.result])
      let t := u.setPanel a { s.panel a with polledAt := some u.base.now }
      Ends .poll s { t with pbc := { t.pbc with
        roundNext := a.val + 1
        awaiting := some { panel := a, poll := { kind := 0x60, tag := BitVec.ofNat 8 a.val, payload := payload } } } })
    ∧ (s.pbc.awaiting = none → Ends .pollReplyTimeout s u)
    ∧ ∀ a poll, s.pbc.awaiting = some { panel := a, poll := poll } →
      let x := s.panel a
      let b : Byte := BitVec.ofNat 8 a.val
      let ended := endExchange u
      let missed := fun (i : Instr) =>
        (x.present = false → Ends i s ended)
        ∧ (x.present = true → x.misses < 2 → Ends i s (ended.setPanel a { x with misses := x.misses + 1 }))
        ∧ (x.present = true → 2 ≤ x.misses → Ends i s
            ((ended.setPanel a { x with present := false, misses := 0 }).note 0x74 [b, 1, 0, 0, 0, 0]))
      missed .pollReplyTimeout
      ∧ (∀ checkHolds kind tag payload,
          ¬ (checkHolds = true ∧ kind = 0x61 ∧ tag = b ∧ payload.length = 4) →
          missed (.pollReplyBadFrame checkHolds kind tag payload))
      ∧ (∀ (number : Byte) (argument : Half), x.present = true →
          Ends (.panelNone b number argument) s (s.heard a))
      ∧ (∀ (number : Byte) (argument : Half), x.present = false →
          Ends (.panelNone b number argument) s ((s.heard a).note 0x74 [b, 0, 0, 0, 0, 0]))
      ∧ (∀ (r : ActionRecord) (argument : Half), x.present = true → x.lastAction = some r → r.code ≠ 0 →
          Ends (.panelActionBadCode b r.code r.number argument) s (s.heard a)
            ∧ ∀ y ∈ panelActions a r.number argument, y.code = r.code → Ends y.command s (s.heard a))
      ∧ (∀ (code number : Byte) (argument : Half), s.awaits a .view number code → 9 < code.toNat →
          PanelRefused (.panelActionBadCode b code number argument) s a number code argument.toNat .badField)
      ∧ (∀ (number : Byte) (argument : Half), ∀ y ∈ panelActions a number argument, s.awaits a .view number y.code →
          let inRange := (y.code = 1 → argument.toNat ≤ 112) ∧ (y.code = 3 ∨ y.code = 4 → argument.toNat ≤ 15)
          (¬ inRange → PanelRefused y.command s a number y.code argument.toNat .badField)
          ∧ (inRange → (s.panelCfg a).rights.code < y.level.code →
            PanelRefused y.command s a number y.code argument.toNat .refusedRights))
      ∧ ∀ (code number : Byte) (argument : Half), x.present = false →
          let woken := (s.setPanel a { x with present := true }).note 0x74 [b, 0, 0, 0, 0, 0]
          let i := Instr.panelActionBadCode b code number argument
          exec i s = exec i woken ∧ ∀ y ∈ panelActions a number argument, exec y.command s = exec y.command woken

/-- PANEL_SET replaces the settings of a panel record, and one that ceases to be fitted is ABSENT with a PANEL_EVENT
(R164); an exchange under way with it ends (log 20). PANEL_QUERY reports a record in 13 bytes, or all eight (R165). Whether
the reply or the PANEL_EVENT goes out first is log 31. -/
def Obligations.PanelSettings : Prop :=
  ∀ (tag address : Byte) (s : State), tag ≠ 0 → s.takes →
    let report := fun (a : Fin 8) => let x := s.panel a
      [BitVec.ofNat 8 a.val, BitVec.ofNat 8 ((if (s.panelCfg a).fitted then 1 else 0) + (if x.present then 2 else 0)),
          BitVec.ofNat 8 (s.panelCfg a).rights.code, BitVec.ofNat 8 x.misses]
        ++ (match x.lastAction with
            | none => [0, 0, 0, 0, 255]
            | some r => [r.number, r.code] ++ be16 r.argument ++ [BitVec.ofNat 8 r.result])
        ++ be32 (x.lastReply.getD 0)
    let query : Frame := { kind := 0x39, tag := tag, payload := [address] }
    (∀ a : Fin 8, address.toNat = a.val →
      (report a).length = 13 ∧ Answers (.panelQuery tag address) s query .ok (report a) s.taking)
    ∧ (address = 255 → Answers (.panelQuery tag address) s query .ok ((List.finRange 8).flatMap report) s.taking)
    ∧ (7 < address.toNat → address ≠ 255 → Answers (.panelQuery tag address) s query .badField [] s.taking)
    ∧ (s.ss.saving = none → ∀ level fitted : Byte,
      let i := Instr.panelSet tag address level fitted
      let f : Frame := { kind := 0x38, tag := tag, payload := [address, level, fitted] }
      (7 < address.toNat ∨ 3 < level.toNat ∨ 1 < fitted.toNat → Answers i s f .badField [] s.taking)
      ∧ ∀ (a : Fin 8) (r : Rights), address.toNat = a.val → level.toNat = r.code →
        let t := s.taking.setPanelCfg a { fitted := fitted == 1, rights := r }
        let x := s.panel a
        (fitted = 1 → (s.panelCfg a).fitted = true → Answers i s f .ok [] t)
        ∧ (fitted = 1 → (s.panelCfg a).fitted = false → Answers i s f .ok []
            (t.setPanel a { x with polledAt := none }))
        ∧ (fitted = 0 →
          let absent := if x.present then
              (t.setPanel a { x with present := false, misses := 0 }).note 0x74 [BitVec.ofNat 8 a.val, 1, 0, 0, 0, 0]
            else t
          ((∀ e ∈ s.pbc.awaiting, e.panel ≠ a) → Answers i s f .ok [] absent)
          ∧ ∀ e, s.pbc.awaiting = some e → e.panel = a →
            Answers i s f .ok [] { absent with pbc := { absent.pbc with awaiting := none } }))

/-! ### The whole machine -/

/-- An act always runs to its end: what follows from an event is never cut short, whatever the state (log 16). -/
def Obligations.CascadeCompletes : Prop :=
  ∀ (ts : List Task) (s : State) (more : Nat), runTasks (cascadeFuel ts s + more) ts s = cascade ts s

/-- No command takes the message link's areas beyond their sizes (R2, R4, R8, R11), and job numbers and records stay
distinct and in range (R31, R32). The time base stays within the current second of the clock (log 10). -/
def Obligations.BoundsKept : Prop :=
  (∀ s t : State, LinkBounds s → JobNumbers s → step s = .next t → LinkBounds t ∧ JobNumbers t)
    ∧ ∀ s t : State, TimeWithinSecond s → step s = .next t → TimeWithinSecond t

/-- No command loses a spool block, gives one to two images, or breaks the canonical form of spool memory (R17, R18,
R19). -/
def Obligations.SpoolKept : Prop :=
  ∀ s t : State, SpoolPartition s → SpoolCanonical s → step s = .next t → SpoolPartition t ∧ SpoolCanonical t

/-- The ACTIVE sheet passes its check after every command (R122). -/
def Obligations.ActiveStaysConsistent : Prop :=
  ∀ s t : State, ActiveConsistent s → step s = .next t → ActiveConsistent t

/-- Every alert entry agrees with its condition, the announcement list holds exactly the entries in RAISED and LINGER,
and what the sources hold agrees with what the entries were told, after every command (R111, R148, R150). The horn sounds
exactly while R156 says, at the moment of the time base, after every command. -/
def Obligations.AlertsKept : Prop :=
  (∀ s t : State, AlertTable s → SourcesAgree s → step s = .next t → AlertTable t ∧ SourcesAgree t)
    ∧ ∀ s t : State, HornFollows s → step s = .next t → HornFollows t

/-- At every port the effective window follows R99, and nothing is in flight unless the link is UP, after every
command. -/
def Obligations.WindowsKept : Prop :=
  ∀ s t : State, WindowsHold s → step s = .next t → WindowsHold t

/-- The invariants hold right after reset. -/
def Obligations.InvariantsAtReset : Prop :=
  LinkBounds State.reset ∧ JobNumbers State.reset ∧ SpoolPartition State.reset ∧ SpoolCanonical State.reset
    ∧ ActiveConsistent State.reset ∧ AlertTable State.reset ∧ SourcesAgree State.reset ∧ WindowsHold State.reset
    ∧ HornFollows State.reset ∧ TimeWithinSecond State.reset
end

