-- ==== Sys2Proof/Laws/State.lean ====
section
/-! SUPPORT. One lemma per field per update of State: what each named write leaves as it was, and what each read gives after it. -/

namespace Sys2Proof.Machine

variable {s : State}

/-! ### Reads after writes -/

@[simp] theorem port_setPort (p q : PortNo) (x : Port) :
    (s.setPort p x).port q = if q = p then x else s.port q := by
  unfold State.port State.setPort
  rw [Vector.getElem_set]
  by_cases h : q = p
  · simp [h]
  · have : p.val ≠ q.val := fun e => h (Fin.ext e.symm)
    simp [h, this]

@[simp] theorem port_modPort (p q : PortNo) (f : Port → Port) :
    (s.modPort p f).port q = if q = p then f (s.port q) else s.port q := by
  unfold State.modPort
  rw [port_setPort]
  split <;> simp_all

@[simp] theorem portCfg_setPortCfg (p q : PortNo) (x : PortSettings) :
    (s.setPortCfg p x).portCfg q = if q = p then x else s.portCfg q := by
  unfold State.portCfg State.setPortCfg
  simp only [Vector.getElem_set]
  by_cases h : q = p
  · simp [h]
  · have : p.val ≠ q.val := fun e => h (Fin.ext e.symm)
    simp [h, this]

@[simp] theorem dest_setDest (d e : Fin 32) (x : Dest) :
    (s.setDest d x).dest e = if e = d then x else s.dest e := by
  unfold State.dest State.setDest
  simp only [Vector.getElem_set]
  by_cases h : e = d
  · simp [h]
  · have : d.val ≠ e.val := fun e' => h (Fin.ext e'.symm)
    simp [h, this]

@[simp] theorem queue_setQueue (d e : Fin 32) (q : List Nat) :
    (s.setQueue d q).queue e = if e = d then q else s.queue e := by
  unfold State.queue State.setQueue
  simp only [Vector.getElem_set]
  by_cases h : e = d
  · simp [h]
  · have : d.val ≠ e.val := fun e' => h (Fin.ext e'.symm)
    simp [h, this]

@[simp] theorem account_setAccount (a b : Fin 128) (x : Account) :
    (s.setAccount a x).account b = if b = a then x else s.account b := by
  unfold State.account State.setAccount
  simp only [Vector.getElem_set]
  by_cases h : b = a
  · simp [h]
  · have : a.val ≠ b.val := fun e' => h (Fin.ext e'.symm)
    simp [h, this]

@[simp] theorem reservation_setReservation (a b : Fin 128) (x : Reserved) :
    (s.setReservation a x).reservation b = if b = a then x else s.reservation b := by
  unfold State.reservation State.setReservation
  simp only [Vector.getElem_set]
  by_cases h : b = a
  · simp [h]
  · have : a.val ≠ b.val := fun e' => h (Fin.ext e'.symm)
    simp [h, this]

@[simp] theorem alert_setAlert (a b : EntryNo) (x : Alert) :
    (s.setAlert a x).alert b = if b = a then x else s.alert b := by
  unfold State.alert State.setAlert
  simp only [Vector.getElem_set]
  by_cases h : b = a
  · simp [h]
  · have : a.val ≠ b.val := fun e' => h (Fin.ext e'.symm)
    simp [h, this]

@[simp] theorem panel_setPanel (a b : Fin 8) (x : Panel) :
    (s.setPanel a x).panel b = if b = a then x else s.panel b := by
  unfold State.panel State.setPanel
  simp only [Vector.getElem_set]
  by_cases h : b = a
  · simp [h]
  · have : a.val ≠ b.val := fun e' => h (Fin.ext e'.symm)
    simp [h, this]

@[simp] theorem panelCfg_setPanelCfg (a b : Fin 8) (x : PanelSettings) :
    (s.setPanelCfg a x).panelCfg b = if b = a then x else s.panelCfg b := by
  unfold State.panelCfg State.setPanelCfg
  simp only [Vector.getElem_set]
  by_cases h : b = a
  · simp [h]
  · have : a.val ≠ b.val := fun e' => h (Fin.ext e'.symm)
    simp [h, this]

/-! ### Fields a write leaves alone -/

@[simp] theorem setPort_frame (p : PortNo) (x : Port) :
    (s.setPort p x).mlc = s.mlc ∧ (s.setPort p x).smm = s.smm ∧ (s.setPort p x).jt = s.jt
      ∧ (s.setPort p x).dt = s.dt ∧ (s.setPort p x).reserved = s.reserved ∧ (s.setPort p x).au = s.au
      ∧ (s.setPort p x).pbc = s.pbc ∧ (s.setPort p x).cfg = s.cfg ∧ (s.setPort p x).ss = s.ss
      ∧ (s.setPort p x).notes = s.notes ∧ (s.setPort p x).pressOut = s.pressOut
      ∧ (s.setPort p x).freeCount = s.freeCount ∧ (s.setPort p x).base = s.base
      ∧ (s.setPort p x).pending = s.pending := by
  simp [State.setPort]

@[simp] theorem modPort_frame (p : PortNo) (f : Port → Port) :
    (s.modPort p f).mlc = s.mlc ∧ (s.modPort p f).smm = s.smm ∧ (s.modPort p f).jt = s.jt
      ∧ (s.modPort p f).dt = s.dt ∧ (s.modPort p f).reserved = s.reserved ∧ (s.modPort p f).au = s.au
      ∧ (s.modPort p f).pbc = s.pbc ∧ (s.modPort p f).cfg = s.cfg ∧ (s.modPort p f).ss = s.ss
      ∧ (s.modPort p f).notes = s.notes ∧ (s.modPort p f).pressOut = s.pressOut
      ∧ (s.modPort p f).freeCount = s.freeCount ∧ (s.modPort p f).base = s.base
      ∧ (s.modPort p f).pending = s.pending := by
  simp [State.modPort]

@[simp] theorem setPortCfg_frame (p : PortNo) (x : PortSettings) :
    (s.setPortCfg p x).mlc = s.mlc ∧ (s.setPortCfg p x).smm = s.smm ∧ (s.setPortCfg p x).jt = s.jt
      ∧ (s.setPortCfg p x).dt = s.dt ∧ (s.setPortCfg p x).ports = s.ports
      ∧ (s.setPortCfg p x).reserved = s.reserved ∧ (s.setPortCfg p x).au = s.au ∧ (s.setPortCfg p x).pbc = s.pbc
      ∧ (s.setPortCfg p x).ss = s.ss ∧ (s.setPortCfg p x).notes = s.notes
      ∧ (s.setPortCfg p x).pressOut = s.pressOut ∧ (s.setPortCfg p x).freeCount = s.freeCount
      ∧ (s.setPortCfg p x).base = s.base ∧ (s.setPortCfg p x).pending = s.pending := by
  simp [State.setPortCfg]

@[simp] theorem setDest_frame (d : Fin 32) (x : Dest) :
    (s.setDest d x).mlc = s.mlc ∧ (s.setDest d x).smm = s.smm ∧ (s.setDest d x).jt = s.jt
      ∧ (s.setDest d x).dt = s.dt ∧ (s.setDest d x).ports = s.ports ∧ (s.setDest d x).reserved = s.reserved
      ∧ (s.setDest d x).au = s.au ∧ (s.setDest d x).pbc = s.pbc ∧ (s.setDest d x).ss = s.ss
      ∧ (s.setDest d x).notes = s.notes ∧ (s.setDest d x).pressOut = s.pressOut
      ∧ (s.setDest d x).freeCount = s.freeCount ∧ (s.setDest d x).base = s.base
      ∧ (s.setDest d x).pending = s.pending := by
  simp [State.setDest]

@[simp] theorem setQueue_frame (d : Fin 32) (q : List Nat) :
    (s.setQueue d q).mlc = s.mlc ∧ (s.setQueue d q).smm = s.smm ∧ (s.setQueue d q).jt = s.jt
      ∧ (s.setQueue d q).ports = s.ports ∧ (s.setQueue d q).reserved = s.reserved ∧ (s.setQueue d q).au = s.au
      ∧ (s.setQueue d q).pbc = s.pbc ∧ (s.setQueue d q).cfg = s.cfg ∧ (s.setQueue d q).ss = s.ss
      ∧ (s.setQueue d q).notes = s.notes ∧ (s.setQueue d q).pressOut = s.pressOut
      ∧ (s.setQueue d q).freeCount = s.freeCount ∧ (s.setQueue d q).base = s.base ∧ (s.setQueue d q).pending = s.pending
      ∧ (s.setQueue d q).dt.routeMask = s.dt.routeMask := by
  simp [State.setQueue]

@[simp] theorem setAccount_frame (a : Fin 128) (x : Account) :
    (s.setAccount a x).mlc = s.mlc ∧ (s.setAccount a x).smm = s.smm ∧ (s.setAccount a x).jt = s.jt
      ∧ (s.setAccount a x).dt = s.dt ∧ (s.setAccount a x).ports = s.ports
      ∧ (s.setAccount a x).reserved = s.reserved ∧ (s.setAccount a x).au = s.au ∧ (s.setAccount a x).pbc = s.pbc
      ∧ (s.setAccount a x).ss = s.ss ∧ (s.setAccount a x).notes = s.notes
      ∧ (s.setAccount a x).pressOut = s.pressOut ∧ (s.setAccount a x).freeCount = s.freeCount
      ∧ (s.setAccount a x).base = s.base ∧ (s.setAccount a x).pending = s.pending := by
  simp [State.setAccount]

@[simp] theorem setReservation_frame (a : Fin 128) (x : Reserved) :
    (s.setReservation a x).mlc = s.mlc ∧ (s.setReservation a x).smm = s.smm ∧ (s.setReservation a x).jt = s.jt
      ∧ (s.setReservation a x).dt = s.dt ∧ (s.setReservation a x).ports = s.ports
      ∧ (s.setReservation a x).au = s.au ∧ (s.setReservation a x).pbc = s.pbc ∧ (s.setReservation a x).cfg = s.cfg
      ∧ (s.setReservation a x).ss = s.ss ∧ (s.setReservation a x).notes = s.notes
      ∧ (s.setReservation a x).pressOut = s.pressOut ∧ (s.setReservation a x).freeCount = s.freeCount
      ∧ (s.setReservation a x).base = s.base ∧ (s.setReservation a x).pending = s.pending := by
  simp [State.setReservation]

@[simp] theorem setAlert_frame (e : EntryNo) (x : Alert) :
    (s.setAlert e x).mlc = s.mlc ∧ (s.setAlert e x).smm = s.smm ∧ (s.setAlert e x).jt = s.jt
      ∧ (s.setAlert e x).dt = s.dt ∧ (s.setAlert e x).ports = s.ports ∧ (s.setAlert e x).reserved = s.reserved
      ∧ (s.setAlert e x).pbc = s.pbc ∧ (s.setAlert e x).cfg = s.cfg ∧ (s.setAlert e x).ss = s.ss
      ∧ (s.setAlert e x).notes = s.notes ∧ (s.setAlert e x).pressOut = s.pressOut
      ∧ (s.setAlert e x).freeCount = s.freeCount ∧ (s.setAlert e x).base = s.base
      ∧ (s.setAlert e x).pending = s.pending := by
  simp [State.setAlert]

@[simp] theorem setPanel_frame (a : Fin 8) (x : Panel) :
    (s.setPanel a x).mlc = s.mlc ∧ (s.setPanel a x).smm = s.smm ∧ (s.setPanel a x).jt = s.jt
      ∧ (s.setPanel a x).dt = s.dt ∧ (s.setPanel a x).ports = s.ports ∧ (s.setPanel a x).reserved = s.reserved
      ∧ (s.setPanel a x).au = s.au ∧ (s.setPanel a x).cfg = s.cfg ∧ (s.setPanel a x).ss = s.ss
      ∧ (s.setPanel a x).notes = s.notes ∧ (s.setPanel a x).pressOut = s.pressOut
      ∧ (s.setPanel a x).freeCount = s.freeCount ∧ (s.setPanel a x).base = s.base
      ∧ (s.setPanel a x).pending = s.pending := by
  simp [State.setPanel]

@[simp] theorem setPanelCfg_frame (a : Fin 8) (x : PanelSettings) :
    (s.setPanelCfg a x).mlc = s.mlc ∧ (s.setPanelCfg a x).smm = s.smm ∧ (s.setPanelCfg a x).jt = s.jt
      ∧ (s.setPanelCfg a x).dt = s.dt ∧ (s.setPanelCfg a x).ports = s.ports
      ∧ (s.setPanelCfg a x).reserved = s.reserved ∧ (s.setPanelCfg a x).au = s.au
      ∧ (s.setPanelCfg a x).pbc = s.pbc ∧ (s.setPanelCfg a x).ss = s.ss ∧ (s.setPanelCfg a x).notes = s.notes
      ∧ (s.setPanelCfg a x).pressOut = s.pressOut ∧ (s.setPanelCfg a x).freeCount = s.freeCount
      ∧ (s.setPanelCfg a x).base = s.base ∧ (s.setPanelCfg a x).pending = s.pending := by
  simp [State.setPanelCfg]

@[simp] theorem modJob_frame (n : Nat) (f : Job → Job) :
    (s.modJob n f).mlc = s.mlc ∧ (s.modJob n f).smm = s.smm ∧ (s.modJob n f).dt = s.dt
      ∧ (s.modJob n f).ports = s.ports ∧ (s.modJob n f).reserved = s.reserved ∧ (s.modJob n f).au = s.au
      ∧ (s.modJob n f).pbc = s.pbc ∧ (s.modJob n f).cfg = s.cfg ∧ (s.modJob n f).ss = s.ss
      ∧ (s.modJob n f).notes = s.notes ∧ (s.modJob n f).pressOut = s.pressOut
      ∧ (s.modJob n f).freeCount = s.freeCount ∧ (s.modJob n f).base = s.base ∧ (s.modJob n f).pending = s.pending
      ∧ (s.modJob n f).jt.lastNum = s.jt.lastNum ∧ (s.modJob n f).jt.finished = s.jt.finished := by
  simp [State.modJob]

@[simp] theorem note_frame (k : Byte) (c : List Byte) :
    (s.note k c).mlc = s.mlc ∧ (s.note k c).smm = s.smm ∧ (s.note k c).jt = s.jt ∧ (s.note k c).dt = s.dt
      ∧ (s.note k c).ports = s.ports ∧ (s.note k c).reserved = s.reserved ∧ (s.note k c).au = s.au
      ∧ (s.note k c).pbc = s.pbc ∧ (s.note k c).cfg = s.cfg ∧ (s.note k c).ss = s.ss
      ∧ (s.note k c).pressOut = s.pressOut ∧ (s.note k c).freeCount = s.freeCount
      ∧ (s.note k c).base = s.base ∧ (s.note k c).pending = s.pending := by
  simp [State.note]

@[simp] theorem noteJob_frame (n : Nat) (r : JobReason) :
    (s.noteJob n r).mlc = s.mlc ∧ (s.noteJob n r).smm = s.smm ∧ (s.noteJob n r).jt = s.jt
      ∧ (s.noteJob n r).dt = s.dt ∧ (s.noteJob n r).ports = s.ports ∧ (s.noteJob n r).reserved = s.reserved
      ∧ (s.noteJob n r).au = s.au ∧ (s.noteJob n r).pbc = s.pbc ∧ (s.noteJob n r).cfg = s.cfg
      ∧ (s.noteJob n r).ss = s.ss ∧ (s.noteJob n r).pressOut = s.pressOut
      ∧ (s.noteJob n r).freeCount = s.freeCount ∧ (s.noteJob n r).base = s.base
      ∧ (s.noteJob n r).pending = s.pending := by
  simp only [State.noteJob]; (repeat' split) <;> simp

@[simp] theorem notePort_frame (p : PortNo) :
    (s.notePort p).mlc = s.mlc ∧ (s.notePort p).smm = s.smm ∧ (s.notePort p).jt = s.jt ∧ (s.notePort p).dt = s.dt
      ∧ (s.notePort p).ports = s.ports ∧ (s.notePort p).reserved = s.reserved ∧ (s.notePort p).au = s.au
      ∧ (s.notePort p).pbc = s.pbc ∧ (s.notePort p).cfg = s.cfg ∧ (s.notePort p).ss = s.ss
      ∧ (s.notePort p).pressOut = s.pressOut ∧ (s.notePort p).freeCount = s.freeCount
      ∧ (s.notePort p).base = s.base ∧ (s.notePort p).pending = s.pending := by
  simp only [State.notePort]; (repeat' split) <;> simp

@[simp] theorem send_frame (p : PortNo) (f : Frame) :
    (s.send p f).mlc = s.mlc ∧ (s.send p f).smm = s.smm ∧ (s.send p f).jt = s.jt ∧ (s.send p f).dt = s.dt
      ∧ (s.send p f).ports = s.ports ∧ (s.send p f).reserved = s.reserved ∧ (s.send p f).au = s.au
      ∧ (s.send p f).pbc = s.pbc ∧ (s.send p f).cfg = s.cfg ∧ (s.send p f).ss = s.ss
      ∧ (s.send p f).notes = s.notes ∧ (s.send p f).freeCount = s.freeCount
      ∧ (s.send p f).base = s.base ∧ (s.send p f).pending = s.pending := by
  simp [State.send]

@[simp] theorem refreshWindow_frame (p : PortNo) :
    (refreshWindow p s).mlc = s.mlc ∧ (refreshWindow p s).smm = s.smm ∧ (refreshWindow p s).jt = s.jt
      ∧ (refreshWindow p s).dt = s.dt ∧ (refreshWindow p s).reserved = s.reserved ∧ (refreshWindow p s).au = s.au
      ∧ (refreshWindow p s).pbc = s.pbc ∧ (refreshWindow p s).cfg = s.cfg ∧ (refreshWindow p s).ss = s.ss
      ∧ (refreshWindow p s).notes = s.notes ∧ (refreshWindow p s).pressOut = s.pressOut
      ∧ (refreshWindow p s).freeCount = s.freeCount ∧ (refreshWindow p s).base = s.base
      ∧ (refreshWindow p s).pending = s.pending := by
  simp [refreshWindow]

end Sys2Proof.Machine
end

