-- ==== Sys2Proof/Laws/Frames.lean ====
section
/-! SUPPORT. For each shared operation, the fields of State that it leaves as they were. -/

namespace Sys2Proof.Machine

variable {s : State}

/-! ### The Alert Unit -/

@[simp] theorem evalLamps_frame (p : PortNo) :
    (evalLamps p s).mlc = s.mlc ∧ (evalLamps p s).smm = s.smm ∧ (evalLamps p s).jt = s.jt
      ∧ (evalLamps p s).dt = s.dt ∧ (evalLamps p s).reserved = s.reserved ∧ (evalLamps p s).au = s.au
      ∧ (evalLamps p s).pbc = s.pbc ∧ (evalLamps p s).cfg = s.cfg ∧ (evalLamps p s).ss = s.ss
      ∧ (evalLamps p s).notes = s.notes ∧ (evalLamps p s).pressOut = s.pressOut
      ∧ (evalLamps p s).freeCount = s.freeCount ∧ (evalLamps p s).base = s.base
      ∧ (evalLamps p s).pending = s.pending := by
  simp only [evalLamps]; (repeat' split) <;> simp

@[simp] theorem evalHorn_frame  :
    (evalHorn s).mlc = s.mlc ∧ (evalHorn s).smm = s.smm ∧ (evalHorn s).jt = s.jt ∧ (evalHorn s).dt = s.dt
      ∧ (evalHorn s).ports = s.ports ∧ (evalHorn s).reserved = s.reserved ∧ (evalHorn s).pbc = s.pbc
      ∧ (evalHorn s).cfg = s.cfg ∧ (evalHorn s).ss = s.ss ∧ (evalHorn s).notes = s.notes
      ∧ (evalHorn s).pressOut = s.pressOut ∧ (evalHorn s).freeCount = s.freeCount
      ∧ (evalHorn s).base = s.base ∧ (evalHorn s).pending = s.pending := by
  simp [evalHorn]

@[simp] theorem alertMove_frame (e : EntryNo) (a : Alert) (l : List EntryNo) (r : Bool) (t : Nat) :
    (alertMove e a l r t s).mlc = s.mlc ∧ (alertMove e a l r t s).smm = s.smm ∧ (alertMove e a l r t s).jt = s.jt
      ∧ (alertMove e a l r t s).dt = s.dt ∧ (alertMove e a l r t s).reserved = s.reserved
      ∧ (alertMove e a l r t s).pbc = s.pbc ∧ (alertMove e a l r t s).cfg = s.cfg
      ∧ (alertMove e a l r t s).ss = s.ss ∧ (alertMove e a l r t s).pressOut = s.pressOut
      ∧ (alertMove e a l r t s).freeCount = s.freeCount ∧ (alertMove e a l r t s).base = s.base
      ∧ (alertMove e a l r t s).pending = s.pending := by
  simp only [alertMove]; (repeat' split) <;> simp

@[simp] theorem alertOn_frame (e : EntryNo) (d : Option Nat) :
    (alertOn e d s).mlc = s.mlc ∧ (alertOn e d s).smm = s.smm ∧ (alertOn e d s).jt = s.jt
      ∧ (alertOn e d s).dt = s.dt ∧ (alertOn e d s).reserved = s.reserved ∧ (alertOn e d s).pbc = s.pbc
      ∧ (alertOn e d s).cfg = s.cfg ∧ (alertOn e d s).ss = s.ss ∧ (alertOn e d s).pressOut = s.pressOut
      ∧ (alertOn e d s).freeCount = s.freeCount ∧ (alertOn e d s).base = s.base
      ∧ (alertOn e d s).pending = s.pending := by
  simp only [alertOn]; (repeat' split) <;> simp

@[simp] theorem alertOff_frame (e : EntryNo) :
    (alertOff e s).mlc = s.mlc ∧ (alertOff e s).smm = s.smm ∧ (alertOff e s).jt = s.jt ∧ (alertOff e s).dt = s.dt
      ∧ (alertOff e s).reserved = s.reserved ∧ (alertOff e s).pbc = s.pbc ∧ (alertOff e s).cfg = s.cfg
      ∧ (alertOff e s).ss = s.ss ∧ (alertOff e s).pressOut = s.pressOut ∧ (alertOff e s).freeCount = s.freeCount
      ∧ (alertOff e s).base = s.base ∧ (alertOff e s).pending = s.pending := by
  simp only [alertOff]; (repeat' split) <;> simp

@[simp] theorem alertRepeat_frame (e : EntryNo) (d : Nat) :
    (alertRepeat e d s).mlc = s.mlc ∧ (alertRepeat e d s).smm = s.smm ∧ (alertRepeat e d s).jt = s.jt
      ∧ (alertRepeat e d s).dt = s.dt ∧ (alertRepeat e d s).reserved = s.reserved
      ∧ (alertRepeat e d s).pbc = s.pbc ∧ (alertRepeat e d s).cfg = s.cfg ∧ (alertRepeat e d s).ss = s.ss
      ∧ (alertRepeat e d s).pressOut = s.pressOut ∧ (alertRepeat e d s).freeCount = s.freeCount
      ∧ (alertRepeat e d s).base = s.base ∧ (alertRepeat e d s).pending = s.pending := by
  simp only [alertRepeat]; (repeat' split) <;> simp

@[simp] theorem alertAck_frame (e : EntryNo) (b : AckBy) :
    (alertAck e b s).mlc = s.mlc ∧ (alertAck e b s).smm = s.smm ∧ (alertAck e b s).jt = s.jt
      ∧ (alertAck e b s).dt = s.dt ∧ (alertAck e b s).reserved = s.reserved ∧ (alertAck e b s).pbc = s.pbc
      ∧ (alertAck e b s).cfg = s.cfg ∧ (alertAck e b s).ss = s.ss ∧ (alertAck e b s).pressOut = s.pressOut
      ∧ (alertAck e b s).freeCount = s.freeCount ∧ (alertAck e b s).base = s.base
      ∧ (alertAck e b s).pending = s.pending := by
  simp only [alertAck]; (repeat' split) <;> simp

@[simp] theorem condOn_frame (p : PortNo) (k : AlertKind) (d : Option Nat) :
    (condOn p k d s).mlc = s.mlc ∧ (condOn p k d s).smm = s.smm ∧ (condOn p k d s).jt = s.jt
      ∧ (condOn p k d s).dt = s.dt ∧ (condOn p k d s).reserved = s.reserved ∧ (condOn p k d s).pbc = s.pbc
      ∧ (condOn p k d s).cfg = s.cfg ∧ (condOn p k d s).ss = s.ss ∧ (condOn p k d s).pressOut = s.pressOut
      ∧ (condOn p k d s).freeCount = s.freeCount ∧ (condOn p k d s).base = s.base
      ∧ (condOn p k d s).pending = s.pending := by
  simp only [condOn]; (repeat' split) <;> simp

@[simp] theorem condOff_frame (p : PortNo) (k : AlertKind) :
    (condOff p k s).mlc = s.mlc ∧ (condOff p k s).smm = s.smm ∧ (condOff p k s).jt = s.jt
      ∧ (condOff p k s).dt = s.dt ∧ (condOff p k s).reserved = s.reserved ∧ (condOff p k s).pbc = s.pbc
      ∧ (condOff p k s).cfg = s.cfg ∧ (condOff p k s).ss = s.ss ∧ (condOff p k s).pressOut = s.pressOut
      ∧ (condOff p k s).freeCount = s.freeCount ∧ (condOff p k s).base = s.base
      ∧ (condOff p k s).pending = s.pending := by
  simp only [condOff]; (repeat' split) <;> simp

@[simp] theorem evalMedia_frame (p : PortNo) :
    (evalMedia p s).mlc = s.mlc ∧ (evalMedia p s).smm = s.smm ∧ (evalMedia p s).jt = s.jt
      ∧ (evalMedia p s).dt = s.dt ∧ (evalMedia p s).reserved = s.reserved ∧ (evalMedia p s).pbc = s.pbc
      ∧ (evalMedia p s).cfg = s.cfg ∧ (evalMedia p s).ss = s.ss ∧ (evalMedia p s).pressOut = s.pressOut
      ∧ (evalMedia p s).freeCount = s.freeCount ∧ (evalMedia p s).base = s.base
      ∧ (evalMedia p s).pending = s.pending := by
  simp only [evalMedia]; (repeat' split) <;> simp

@[simp] theorem evalDoor_frame (p : PortNo) :
    (evalDoor p s).mlc = s.mlc ∧ (evalDoor p s).smm = s.smm ∧ (evalDoor p s).jt = s.jt ∧ (evalDoor p s).dt = s.dt
      ∧ (evalDoor p s).reserved = s.reserved ∧ (evalDoor p s).pbc = s.pbc ∧ (evalDoor p s).cfg = s.cfg
      ∧ (evalDoor p s).ss = s.ss ∧ (evalDoor p s).pressOut = s.pressOut ∧ (evalDoor p s).freeCount = s.freeCount
      ∧ (evalDoor p s).base = s.base ∧ (evalDoor p s).pending = s.pending := by
  simp only [evalDoor]; (repeat' split) <;> simp

/-! ### Spool, accounts and jobs -/

@[simp] theorem evalSpoolLow_frame  :
    (evalSpoolLow s).mlc = s.mlc ∧ (evalSpoolLow s).jt = s.jt ∧ (evalSpoolLow s).dt = s.dt
      ∧ (evalSpoolLow s).reserved = s.reserved ∧ (evalSpoolLow s).pbc = s.pbc ∧ (evalSpoolLow s).cfg = s.cfg
      ∧ (evalSpoolLow s).ss = s.ss ∧ (evalSpoolLow s).pressOut = s.pressOut
      ∧ (evalSpoolLow s).freeCount = s.freeCount ∧ (evalSpoolLow s).base = s.base ∧ (evalSpoolLow s).pending = s.pending
      ∧ (evalSpoolLow s).smm.spool = s.smm.spool ∧ (evalSpoolLow s).smm.sizeClass = s.smm.sizeClass
      ∧ (evalSpoolLow s).smm.images = s.smm.images ∧ (evalSpoolLow s).smm.free = s.smm.free := by
  simp only [evalSpoolLow]; (repeat' split) <;> simp

@[simp] theorem freeImages_frame (n : Nat) :
    (freeImages n s).mlc = s.mlc ∧ (freeImages n s).jt = s.jt ∧ (freeImages n s).dt = s.dt
      ∧ (freeImages n s).reserved = s.reserved ∧ (freeImages n s).pbc = s.pbc ∧ (freeImages n s).cfg = s.cfg
      ∧ (freeImages n s).ss = s.ss ∧ (freeImages n s).pressOut = s.pressOut
      ∧ (freeImages n s).freeCount = s.freeCount ∧ (freeImages n s).base = s.base ∧ (freeImages n s).pending = s.pending
      ∧ (freeImages n s).smm.spool = s.smm.spool ∧ (freeImages n s).smm.sizeClass = s.smm.sizeClass := by
  simp [freeImages]

@[simp] theorem reserve_frame (a : Fin 128) (c k : Nat) :
    (reserve a c k s).mlc = s.mlc ∧ (reserve a c k s).smm = s.smm ∧ (reserve a c k s).jt = s.jt
      ∧ (reserve a c k s).dt = s.dt ∧ (reserve a c k s).ports = s.ports ∧ (reserve a c k s).au = s.au
      ∧ (reserve a c k s).pbc = s.pbc ∧ (reserve a c k s).cfg = s.cfg ∧ (reserve a c k s).ss = s.ss
      ∧ (reserve a c k s).notes = s.notes ∧ (reserve a c k s).pressOut = s.pressOut
      ∧ (reserve a c k s).freeCount = s.freeCount ∧ (reserve a c k s).base = s.base
      ∧ (reserve a c k s).pending = s.pending := by
  simp [reserve]

@[simp] theorem release_frame (a : Fin 128) (c k : Nat) :
    (release a c k s).mlc = s.mlc ∧ (release a c k s).smm = s.smm ∧ (release a c k s).jt = s.jt
      ∧ (release a c k s).dt = s.dt ∧ (release a c k s).ports = s.ports ∧ (release a c k s).au = s.au
      ∧ (release a c k s).pbc = s.pbc ∧ (release a c k s).cfg = s.cfg ∧ (release a c k s).ss = s.ss
      ∧ (release a c k s).notes = s.notes ∧ (release a c k s).pressOut = s.pressOut
      ∧ (release a c k s).freeCount = s.freeCount ∧ (release a c k s).base = s.base
      ∧ (release a c k s).pending = s.pending := by
  simp [release]

@[simp] theorem chargeAccount_frame (a : Fin 128) (c k : Nat) :
    (chargeAccount a c k s).mlc = s.mlc ∧ (chargeAccount a c k s).smm = s.smm ∧ (chargeAccount a c k s).jt = s.jt
      ∧ (chargeAccount a c k s).dt = s.dt ∧ (chargeAccount a c k s).ports = s.ports
      ∧ (chargeAccount a c k s).au = s.au ∧ (chargeAccount a c k s).pbc = s.pbc
      ∧ (chargeAccount a c k s).ss = s.ss ∧ (chargeAccount a c k s).notes = s.notes
      ∧ (chargeAccount a c k s).pressOut = s.pressOut ∧ (chargeAccount a c k s).freeCount = s.freeCount
      ∧ (chargeAccount a c k s).base = s.base ∧ (chargeAccount a c k s).pending = s.pending := by
  simp [chargeAccount]

@[simp] theorem clearBusy_frame (p : PortNo) :
    (clearBusy p s).mlc = s.mlc ∧ (clearBusy p s).smm = s.smm ∧ (clearBusy p s).jt = s.jt
      ∧ (clearBusy p s).dt = s.dt ∧ (clearBusy p s).reserved = s.reserved ∧ (clearBusy p s).au = s.au
      ∧ (clearBusy p s).pbc = s.pbc ∧ (clearBusy p s).cfg = s.cfg ∧ (clearBusy p s).ss = s.ss
      ∧ (clearBusy p s).notes = s.notes ∧ (clearBusy p s).pressOut = s.pressOut
      ∧ (clearBusy p s).freeCount = s.freeCount ∧ (clearBusy p s).base = s.base
      ∧ (clearBusy p s).pending = s.pending := by
  simp [clearBusy]

@[simp] theorem setJobState_frame (n : Nat) (st : JobState) (r : JobReason) :
    (setJobState n st r s).mlc = s.mlc ∧ (setJobState n st r s).smm = s.smm ∧ (setJobState n st r s).dt = s.dt
      ∧ (setJobState n st r s).reserved = s.reserved ∧ (setJobState n st r s).au = s.au
      ∧ (setJobState n st r s).pbc = s.pbc ∧ (setJobState n st r s).cfg = s.cfg ∧ (setJobState n st r s).ss = s.ss
      ∧ (setJobState n st r s).pressOut = s.pressOut ∧ (setJobState n st r s).freeCount = s.freeCount
      ∧ (setJobState n st r s).base = s.base
      ∧ (setJobState n st r s).pending = s.pending ∧ (setJobState n st r s).jt.lastNum = s.jt.lastNum
      ∧ (setJobState n st r s).jt.finished = s.jt.finished := by
  simp only [setJobState]; (repeat' split) <;> simp

@[simp] theorem starvedTest_frame (n : Nat) (r : JobReason) :
    (starvedTest n r s).mlc = s.mlc ∧ (starvedTest n r s).smm = s.smm ∧ (starvedTest n r s).dt = s.dt
      ∧ (starvedTest n r s).reserved = s.reserved ∧ (starvedTest n r s).au = s.au
      ∧ (starvedTest n r s).pbc = s.pbc ∧ (starvedTest n r s).cfg = s.cfg ∧ (starvedTest n r s).ss = s.ss
      ∧ (starvedTest n r s).pressOut = s.pressOut ∧ (starvedTest n r s).freeCount = s.freeCount
      ∧ (starvedTest n r s).base = s.base
      ∧ (starvedTest n r s).pending = s.pending ∧ (starvedTest n r s).jt.lastNum = s.jt.lastNum
      ∧ (starvedTest n r s).jt.finished = s.jt.finished := by
  simp only [starvedTest]; (repeat' split) <;> simp

@[simp] theorem leaveRun_frame (p : PortNo) :
    (leaveRun p s).mlc = s.mlc ∧ (leaveRun p s).smm = s.smm ∧ (leaveRun p s).jt = s.jt ∧ (leaveRun p s).dt = s.dt
      ∧ (leaveRun p s).reserved = s.reserved ∧ (leaveRun p s).pbc = s.pbc ∧ (leaveRun p s).cfg = s.cfg
      ∧ (leaveRun p s).ss = s.ss ∧ (leaveRun p s).pressOut = s.pressOut ∧ (leaveRun p s).freeCount = s.freeCount
      ∧ (leaveRun p s).base = s.base ∧ (leaveRun p s).pending = s.pending := by
  simp [leaveRun]

@[simp] theorem enterRun_frame (p : PortNo) (n : Nat) :
    (enterRun p n s).mlc = s.mlc ∧ (enterRun p n s).smm = s.smm ∧ (enterRun p n s).dt = s.dt
      ∧ (enterRun p n s).reserved = s.reserved ∧ (enterRun p n s).pbc = s.pbc ∧ (enterRun p n s).cfg = s.cfg
      ∧ (enterRun p n s).ss = s.ss ∧ (enterRun p n s).pressOut = s.pressOut
      ∧ (enterRun p n s).freeCount = s.freeCount ∧ (enterRun p n s).base = s.base ∧ (enterRun p n s).pending = s.pending
      ∧ (enterRun p n s).jt.lastNum = s.jt.lastNum ∧ (enterRun p n s).jt.finished = s.jt.finished := by
  simp only [enterRun]; (repeat' split) <;> simp

@[simp] theorem joinQueue_frame (n : Nat) (r : JobReason) :
    ((joinQueue n r s).1).mlc = s.mlc ∧ ((joinQueue n r s).1).smm = s.smm
      ∧ ((joinQueue n r s).1).reserved = s.reserved ∧ ((joinQueue n r s).1).au = s.au
      ∧ ((joinQueue n r s).1).pbc = s.pbc ∧ ((joinQueue n r s).1).cfg = s.cfg ∧ ((joinQueue n r s).1).ss = s.ss
      ∧ ((joinQueue n r s).1).pressOut = s.pressOut ∧ ((joinQueue n r s).1).freeCount = s.freeCount
      ∧ ((joinQueue n r s).1).base = s.base
      ∧ ((joinQueue n r s).1).pending = s.pending ∧ ((joinQueue n r s).1).jt.lastNum = s.jt.lastNum
      ∧ ((joinQueue n r s).1).jt.finished = s.jt.finished
      ∧ ((joinQueue n r s).1).dt.routeMask = s.dt.routeMask := by
  simp only [joinQueue]; (repeat' split) <;> simp

@[simp] theorem leaveQueue_frame (j : Job) :
    (leaveQueue j s).mlc = s.mlc ∧ (leaveQueue j s).smm = s.smm ∧ (leaveQueue j s).reserved = s.reserved
      ∧ (leaveQueue j s).au = s.au ∧ (leaveQueue j s).pbc = s.pbc ∧ (leaveQueue j s).cfg = s.cfg
      ∧ (leaveQueue j s).ss = s.ss ∧ (leaveQueue j s).notes = s.notes ∧ (leaveQueue j s).pressOut = s.pressOut
      ∧ (leaveQueue j s).freeCount = s.freeCount ∧ (leaveQueue j s).base = s.base ∧ (leaveQueue j s).pending = s.pending
      ∧ (leaveQueue j s).jt.lastNum = s.jt.lastNum ∧ (leaveQueue j s).jt.finished = s.jt.finished
      ∧ (leaveQueue j s).dt.routeMask = s.dt.routeMask := by
  simp only [leaveQueue]; (repeat' split) <;> simp

@[simp] theorem leaveSlot_frame (j : Job) :
    ((leaveSlot j s).1).mlc = s.mlc ∧ ((leaveSlot j s).1).smm = s.smm ∧ ((leaveSlot j s).1).jt = s.jt
      ∧ ((leaveSlot j s).1).dt = s.dt ∧ ((leaveSlot j s).1).reserved = s.reserved
      ∧ ((leaveSlot j s).1).pbc = s.pbc ∧ ((leaveSlot j s).1).cfg = s.cfg ∧ ((leaveSlot j s).1).ss = s.ss
      ∧ ((leaveSlot j s).1).pressOut = s.pressOut ∧ ((leaveSlot j s).1).freeCount = s.freeCount
      ∧ ((leaveSlot j s).1).base = s.base ∧ ((leaveSlot j s).1).pending = s.pending := by
  simp only [leaveSlot]; (repeat' split) <;> simp

@[simp] theorem detach_frame (j : Job) :
    ((detach j s).1).mlc = s.mlc ∧ ((detach j s).1).smm = s.smm ∧ ((detach j s).1).reserved = s.reserved
      ∧ ((detach j s).1).pbc = s.pbc ∧ ((detach j s).1).cfg = s.cfg ∧ ((detach j s).1).ss = s.ss
      ∧ ((detach j s).1).pressOut = s.pressOut ∧ ((detach j s).1).freeCount = s.freeCount
      ∧ ((detach j s).1).base = s.base
      ∧ ((detach j s).1).pending = s.pending ∧ ((detach j s).1).jt.lastNum = s.jt.lastNum
      ∧ ((detach j s).1).jt.finished = s.jt.finished ∧ ((detach j s).1).dt.routeMask = s.dt.routeMask := by
  simp only [detach]; (repeat' split) <;> simp

@[simp] theorem finishJob_frame (j : Job) (st : JobState) (r : JobReason) :
    ((finishJob j st r s).1).mlc = s.mlc ∧ ((finishJob j st r s).1).reserved = s.reserved
      ∧ ((finishJob j st r s).1).pbc = s.pbc ∧ ((finishJob j st r s).1).cfg = s.cfg
      ∧ ((finishJob j st r s).1).ss = s.ss ∧ ((finishJob j st r s).1).pressOut = s.pressOut
      ∧ ((finishJob j st r s).1).freeCount = s.freeCount ∧ ((finishJob j st r s).1).base = s.base
      ∧ ((finishJob j st r s).1).pending = s.pending
      ∧ ((finishJob j st r s).1).smm.spool = s.smm.spool
      ∧ ((finishJob j st r s).1).smm.sizeClass = s.smm.sizeClass
      ∧ ((finishJob j st r s).1).jt.lastNum = s.jt.lastNum
      ∧ ((finishJob j st r s).1).dt.routeMask = s.dt.routeMask := by
  simp [finishJob]

@[simp] theorem leaveSpooling_frame (j : Job) :
    ((leaveSpooling j s).1).mlc = s.mlc ∧ ((leaveSpooling j s).1).smm = s.smm
      ∧ ((leaveSpooling j s).1).reserved = s.reserved ∧ ((leaveSpooling j s).1).au = s.au
      ∧ ((leaveSpooling j s).1).pbc = s.pbc ∧ ((leaveSpooling j s).1).cfg = s.cfg
      ∧ ((leaveSpooling j s).1).ss = s.ss ∧ ((leaveSpooling j s).1).pressOut = s.pressOut
      ∧ ((leaveSpooling j s).1).freeCount = s.freeCount ∧ ((leaveSpooling j s).1).base = s.base
      ∧ ((leaveSpooling j s).1).pending = s.pending
      ∧ ((leaveSpooling j s).1).jt.lastNum = s.jt.lastNum ∧ ((leaveSpooling j s).1).jt.finished = s.jt.finished
      ∧ ((leaveSpooling j s).1).dt.routeMask = s.dt.routeMask := by
  simp only [leaveSpooling]; (repeat' split) <;> simp

@[simp] theorem beginDrain_frame (p : PortNo) (n : Nat) (u : Purpose) (r : JobReason) :
    ((beginDrain p n u r s).1).mlc = s.mlc ∧ ((beginDrain p n u r s).1).smm = s.smm
      ∧ ((beginDrain p n u r s).1).dt = s.dt ∧ ((beginDrain p n u r s).1).reserved = s.reserved
      ∧ ((beginDrain p n u r s).1).au = s.au ∧ ((beginDrain p n u r s).1).pbc = s.pbc
      ∧ ((beginDrain p n u r s).1).cfg = s.cfg ∧ ((beginDrain p n u r s).1).ss = s.ss
      ∧ ((beginDrain p n u r s).1).pressOut = s.pressOut ∧ ((beginDrain p n u r s).1).freeCount = s.freeCount
      ∧ ((beginDrain p n u r s).1).base = s.base
      ∧ ((beginDrain p n u r s).1).pending = s.pending ∧ ((beginDrain p n u r s).1).jt.lastNum = s.jt.lastNum
      ∧ ((beginDrain p n u r s).1).jt.finished = s.jt.finished := by
  simp [beginDrain]

@[simp] theorem endDrain_frame (p : PortNo) (j : Job) (c : EndCause) :
    ((endDrain p j c s).1).mlc = s.mlc ∧ ((endDrain p j c s).1).reserved = s.reserved
      ∧ ((endDrain p j c s).1).pbc = s.pbc ∧ ((endDrain p j c s).1).cfg = s.cfg ∧ ((endDrain p j c s).1).ss = s.ss
      ∧ ((endDrain p j c s).1).pressOut = s.pressOut ∧ ((endDrain p j c s).1).freeCount = s.freeCount
      ∧ ((endDrain p j c s).1).base = s.base
      ∧ ((endDrain p j c s).1).pending = s.pending ∧ ((endDrain p j c s).1).smm.spool = s.smm.spool
      ∧ ((endDrain p j c s).1).smm.sizeClass = s.smm.sizeClass ∧ ((endDrain p j c s).1).jt.lastNum = s.jt.lastNum
      ∧ ((endDrain p j c s).1).dt.routeMask = s.dt.routeMask := by
  simp only [endDrain]; (repeat' split) <;> simp

@[simp] theorem runEnd_frame (p : PortNo) (c : EndCause) :
    ((runEnd p c s).1).mlc = s.mlc ∧ ((runEnd p c s).1).reserved = s.reserved ∧ ((runEnd p c s).1).pbc = s.pbc
      ∧ ((runEnd p c s).1).cfg = s.cfg ∧ ((runEnd p c s).1).ss = s.ss ∧ ((runEnd p c s).1).pressOut = s.pressOut
      ∧ ((runEnd p c s).1).freeCount = s.freeCount ∧ ((runEnd p c s).1).base = s.base
      ∧ ((runEnd p c s).1).pending = s.pending
      ∧ ((runEnd p c s).1).smm.spool = s.smm.spool ∧ ((runEnd p c s).1).smm.sizeClass = s.smm.sizeClass
      ∧ ((runEnd p c s).1).jt.lastNum = s.jt.lastNum ∧ ((runEnd p c s).1).dt.routeMask = s.dt.routeMask := by
  simp only [runEnd]; (repeat' split) <;> simp

@[simp] theorem creditStop_frame (p : PortNo) (n : Nat) :
    ((creditStop p n s).1).mlc = s.mlc ∧ ((creditStop p n s).1).smm = s.smm ∧ ((creditStop p n s).1).dt = s.dt
      ∧ ((creditStop p n s).1).reserved = s.reserved ∧ ((creditStop p n s).1).au = s.au
      ∧ ((creditStop p n s).1).pbc = s.pbc ∧ ((creditStop p n s).1).cfg = s.cfg ∧ ((creditStop p n s).1).ss = s.ss
      ∧ ((creditStop p n s).1).pressOut = s.pressOut ∧ ((creditStop p n s).1).freeCount = s.freeCount
      ∧ ((creditStop p n s).1).base = s.base
      ∧ ((creditStop p n s).1).pending = s.pending ∧ ((creditStop p n s).1).jt.lastNum = s.jt.lastNum
      ∧ ((creditStop p n s).1).jt.finished = s.jt.finished := by
  simp [creditStop]

@[simp] theorem creditClear_frame (n : Nat) :
    ((creditClear n s).1).mlc = s.mlc ∧ ((creditClear n s).1).smm = s.smm
      ∧ ((creditClear n s).1).reserved = s.reserved ∧ ((creditClear n s).1).au = s.au
      ∧ ((creditClear n s).1).pbc = s.pbc ∧ ((creditClear n s).1).cfg = s.cfg ∧ ((creditClear n s).1).ss = s.ss
      ∧ ((creditClear n s).1).pressOut = s.pressOut ∧ ((creditClear n s).1).freeCount = s.freeCount
      ∧ ((creditClear n s).1).base = s.base
      ∧ ((creditClear n s).1).pending = s.pending ∧ ((creditClear n s).1).jt.lastNum = s.jt.lastNum
      ∧ ((creditClear n s).1).jt.finished = s.jt.finished
      ∧ ((creditClear n s).1).dt.routeMask = s.dt.routeMask := by
  simp only [creditClear]; (repeat' split) <;> simp

@[simp] theorem freeRecord_frame (n : Nat) :
    (freeRecord n s).mlc = s.mlc ∧ (freeRecord n s).smm = s.smm ∧ (freeRecord n s).dt = s.dt
      ∧ (freeRecord n s).ports = s.ports ∧ (freeRecord n s).reserved = s.reserved ∧ (freeRecord n s).au = s.au
      ∧ (freeRecord n s).pbc = s.pbc ∧ (freeRecord n s).cfg = s.cfg ∧ (freeRecord n s).ss = s.ss
      ∧ (freeRecord n s).notes = s.notes ∧ (freeRecord n s).pressOut = s.pressOut
      ∧ (freeRecord n s).freeCount = s.freeCount ∧ (freeRecord n s).base = s.base ∧ (freeRecord n s).pending = s.pending
      ∧ (freeRecord n s).jt.lastNum = s.jt.lastNum := by
  simp [freeRecord]

/-! ### Offer, pull, dispatch -/

@[simp] theorem insertAt_frame (p : PortNo) (j : Job) :
    ((insertAt p j s).1).mlc = s.mlc ∧ ((insertAt p j s).1).smm = s.smm
      ∧ ((insertAt p j s).1).reserved = s.reserved ∧ ((insertAt p j s).1).au = s.au
      ∧ ((insertAt p j s).1).pbc = s.pbc ∧ ((insertAt p j s).1).cfg = s.cfg ∧ ((insertAt p j s).1).ss = s.ss
      ∧ ((insertAt p j s).1).pressOut = s.pressOut ∧ ((insertAt p j s).1).freeCount = s.freeCount
      ∧ ((insertAt p j s).1).base = s.base
      ∧ ((insertAt p j s).1).pending = s.pending ∧ ((insertAt p j s).1).jt.lastNum = s.jt.lastNum
      ∧ ((insertAt p j s).1).jt.finished = s.jt.finished
      ∧ ((insertAt p j s).1).dt.routeMask = s.dt.routeMask := by
  simp only [insertAt]; (repeat' split) <;> simp

@[simp] theorem offerJob_frame (n : Nat) :
    ((offerJob n s).1).mlc = s.mlc ∧ ((offerJob n s).1).smm = s.smm ∧ ((offerJob n s).1).reserved = s.reserved
      ∧ ((offerJob n s).1).pbc = s.pbc ∧ ((offerJob n s).1).cfg = s.cfg ∧ ((offerJob n s).1).ss = s.ss
      ∧ ((offerJob n s).1).pressOut = s.pressOut ∧ ((offerJob n s).1).freeCount = s.freeCount
      ∧ ((offerJob n s).1).base = s.base
      ∧ ((offerJob n s).1).pending = s.pending ∧ ((offerJob n s).1).jt.lastNum = s.jt.lastNum
      ∧ ((offerJob n s).1).jt.finished = s.jt.finished ∧ ((offerJob n s).1).dt.routeMask = s.dt.routeMask := by
  simp only [offerJob]; (repeat' split) <;> simp

@[simp] theorem takeQueued_frame (p : PortNo) (d : Fin 32) (j : Job) :
    ((takeQueued p d j s).1).mlc = s.mlc ∧ ((takeQueued p d j s).1).smm = s.smm
      ∧ ((takeQueued p d j s).1).reserved = s.reserved ∧ ((takeQueued p d j s).1).pbc = s.pbc
      ∧ ((takeQueued p d j s).1).cfg = s.cfg ∧ ((takeQueued p d j s).1).ss = s.ss
      ∧ ((takeQueued p d j s).1).pressOut = s.pressOut ∧ ((takeQueued p d j s).1).freeCount = s.freeCount
      ∧ ((takeQueued p d j s).1).base = s.base
      ∧ ((takeQueued p d j s).1).pending = s.pending ∧ ((takeQueued p d j s).1).jt.lastNum = s.jt.lastNum
      ∧ ((takeQueued p d j s).1).jt.finished = s.jt.finished
      ∧ ((takeQueued p d j s).1).dt.routeMask = s.dt.routeMask := by
  simp [takeQueued]

@[simp] theorem pullQueues_frame (p : PortNo) :
    ((pullQueues p s).1).mlc = s.mlc ∧ ((pullQueues p s).1).smm = s.smm
      ∧ ((pullQueues p s).1).reserved = s.reserved ∧ ((pullQueues p s).1).pbc = s.pbc
      ∧ ((pullQueues p s).1).cfg = s.cfg ∧ ((pullQueues p s).1).ss = s.ss
      ∧ ((pullQueues p s).1).pressOut = s.pressOut ∧ ((pullQueues p s).1).freeCount = s.freeCount
      ∧ ((pullQueues p s).1).base = s.base
      ∧ ((pullQueues p s).1).pending = s.pending ∧ ((pullQueues p s).1).jt.lastNum = s.jt.lastNum
      ∧ ((pullQueues p s).1).jt.finished = s.jt.finished
      ∧ ((pullQueues p s).1).dt.routeMask = s.dt.routeMask := by
  simp only [pullQueues]; (repeat' split) <;> simp

@[simp] theorem pull_frame (p : PortNo) :
    ((pull p s).1).mlc = s.mlc ∧ ((pull p s).1).smm = s.smm ∧ ((pull p s).1).reserved = s.reserved
      ∧ ((pull p s).1).pbc = s.pbc ∧ ((pull p s).1).cfg = s.cfg ∧ ((pull p s).1).ss = s.ss
      ∧ ((pull p s).1).pressOut = s.pressOut ∧ ((pull p s).1).freeCount = s.freeCount
      ∧ ((pull p s).1).base = s.base ∧ ((pull p s).1).pending = s.pending ∧ ((pull p s).1).jt.lastNum = s.jt.lastNum
      ∧ ((pull p s).1).jt.finished = s.jt.finished ∧ ((pull p s).1).dt.routeMask = s.dt.routeMask := by
  simp only [pull]; (repeat' split) <;> simp

@[simp] theorem sendSheet_frame (p : PortNo) (j : Job) (i : Image) (f : Flight) :
    (sendSheet p j i f s).mlc = s.mlc ∧ (sendSheet p j i f s).smm = s.smm ∧ (sendSheet p j i f s).dt = s.dt
      ∧ (sendSheet p j i f s).reserved = s.reserved ∧ (sendSheet p j i f s).au = s.au
      ∧ (sendSheet p j i f s).pbc = s.pbc ∧ (sendSheet p j i f s).cfg = s.cfg ∧ (sendSheet p j i f s).ss = s.ss
      ∧ (sendSheet p j i f s).pressOut = s.pressOut ∧ (sendSheet p j i f s).freeCount = s.freeCount
      ∧ (sendSheet p j i f s).base = s.base
      ∧ (sendSheet p j i f s).pending = s.pending ∧ (sendSheet p j i f s).jt.lastNum = s.jt.lastNum
      ∧ (sendSheet p j i f s).jt.finished = s.jt.finished := by
  simp [sendSheet]

@[simp] theorem dispatch_frame (p : PortNo) :
    ((dispatch p s).1).mlc = s.mlc ∧ ((dispatch p s).1).smm = s.smm ∧ ((dispatch p s).1).dt = s.dt
      ∧ ((dispatch p s).1).au = s.au ∧ ((dispatch p s).1).pbc = s.pbc ∧ ((dispatch p s).1).cfg = s.cfg
      ∧ ((dispatch p s).1).ss = s.ss ∧ ((dispatch p s).1).pressOut = s.pressOut
      ∧ ((dispatch p s).1).freeCount = s.freeCount ∧ ((dispatch p s).1).base = s.base
      ∧ ((dispatch p s).1).pending = s.pending
      ∧ ((dispatch p s).1).jt.lastNum = s.jt.lastNum ∧ ((dispatch p s).1).jt.finished = s.jt.finished := by
  simp only [dispatch]; (repeat' split) <;> simp

/-! ### The link of a port -/

@[simp] theorem setLink_frame (p : PortNo) (l : Link) :
    (setLink p l s).mlc = s.mlc ∧ (setLink p l s).smm = s.smm ∧ (setLink p l s).jt = s.jt
      ∧ (setLink p l s).dt = s.dt ∧ (setLink p l s).reserved = s.reserved ∧ (setLink p l s).au = s.au
      ∧ (setLink p l s).pbc = s.pbc ∧ (setLink p l s).cfg = s.cfg ∧ (setLink p l s).ss = s.ss
      ∧ (setLink p l s).pressOut = s.pressOut ∧ (setLink p l s).freeCount = s.freeCount
      ∧ (setLink p l s).base = s.base ∧ (setLink p l s).pending = s.pending := by
  simp only [setLink]; (repeat' split) <;> simp

@[simp] theorem setCondition_frame (p : PortNo) (r j d : Bool) (m : Byte) :
    (setCondition p r j d m s).mlc = s.mlc ∧ (setCondition p r j d m s).smm = s.smm
      ∧ (setCondition p r j d m s).jt = s.jt ∧ (setCondition p r j d m s).dt = s.dt
      ∧ (setCondition p r j d m s).reserved = s.reserved ∧ (setCondition p r j d m s).au = s.au
      ∧ (setCondition p r j d m s).pbc = s.pbc ∧ (setCondition p r j d m s).cfg = s.cfg
      ∧ (setCondition p r j d m s).ss = s.ss ∧ (setCondition p r j d m s).pressOut = s.pressOut
      ∧ (setCondition p r j d m s).freeCount = s.freeCount ∧ (setCondition p r j d m s).base = s.base
      ∧ (setCondition p r j d m s).pending = s.pending := by
  simp only [setCondition]; (repeat' split) <;> simp

@[simp] theorem startRateWindow_frame (p : PortNo) :
    (startRateWindow p s).mlc = s.mlc ∧ (startRateWindow p s).smm = s.smm ∧ (startRateWindow p s).jt = s.jt
      ∧ (startRateWindow p s).dt = s.dt ∧ (startRateWindow p s).reserved = s.reserved
      ∧ (startRateWindow p s).au = s.au ∧ (startRateWindow p s).pbc = s.pbc ∧ (startRateWindow p s).cfg = s.cfg
      ∧ (startRateWindow p s).ss = s.ss ∧ (startRateWindow p s).notes = s.notes
      ∧ (startRateWindow p s).pressOut = s.pressOut ∧ (startRateWindow p s).freeCount = s.freeCount
      ∧ (startRateWindow p s).base = s.base ∧ (startRateWindow p s).pending = s.pending := by
  simp [startRateWindow]

@[simp] theorem clearUp_frame (p : PortNo) :
    (clearUp p s).mlc = s.mlc ∧ (clearUp p s).smm = s.smm ∧ (clearUp p s).jt = s.jt ∧ (clearUp p s).dt = s.dt
      ∧ (clearUp p s).reserved = s.reserved ∧ (clearUp p s).pbc = s.pbc ∧ (clearUp p s).cfg = s.cfg
      ∧ (clearUp p s).ss = s.ss ∧ (clearUp p s).pressOut = s.pressOut ∧ (clearUp p s).freeCount = s.freeCount
      ∧ (clearUp p s).base = s.base ∧ (clearUp p s).pending = s.pending := by
  simp [clearUp]

@[simp] theorem goDown_frame (p : PortNo) :
    (goDown p s).mlc = s.mlc ∧ (goDown p s).smm = s.smm ∧ (goDown p s).jt = s.jt ∧ (goDown p s).dt = s.dt
      ∧ (goDown p s).reserved = s.reserved ∧ (goDown p s).au = s.au ∧ (goDown p s).pbc = s.pbc
      ∧ (goDown p s).cfg = s.cfg ∧ (goDown p s).ss = s.ss ∧ (goDown p s).pressOut = s.pressOut
      ∧ (goDown p s).freeCount = s.freeCount ∧ (goDown p s).base = s.base ∧ (goDown p s).pending = s.pending := by
  simp [goDown]

@[simp] theorem leaveUpDown_frame (p : PortNo) :
    (leaveUpDown p s).mlc = s.mlc ∧ (leaveUpDown p s).smm = s.smm ∧ (leaveUpDown p s).jt = s.jt
      ∧ (leaveUpDown p s).dt = s.dt ∧ (leaveUpDown p s).reserved = s.reserved ∧ (leaveUpDown p s).pbc = s.pbc
      ∧ (leaveUpDown p s).cfg = s.cfg ∧ (leaveUpDown p s).ss = s.ss ∧ (leaveUpDown p s).pressOut = s.pressOut
      ∧ (leaveUpDown p s).freeCount = s.freeCount ∧ (leaveUpDown p s).base = s.base
      ∧ (leaveUpDown p s).pending = s.pending := by
  simp [leaveUpDown]

@[simp] theorem enterWaking_frame (p : PortNo) :
    (enterWaking p s).mlc = s.mlc ∧ (enterWaking p s).smm = s.smm ∧ (enterWaking p s).jt = s.jt
      ∧ (enterWaking p s).dt = s.dt ∧ (enterWaking p s).reserved = s.reserved ∧ (enterWaking p s).au = s.au
      ∧ (enterWaking p s).pbc = s.pbc ∧ (enterWaking p s).cfg = s.cfg ∧ (enterWaking p s).ss = s.ss
      ∧ (enterWaking p s).freeCount = s.freeCount ∧ (enterWaking p s).base = s.base
      ∧ (enterWaking p s).pending = s.pending := by
  simp [enterWaking]

@[simp] theorem beginAttempt_frame (p : PortNo) (k : Nat) :
    (beginAttempt p k s).mlc = s.mlc ∧ (beginAttempt p k s).smm = s.smm ∧ (beginAttempt p k s).jt = s.jt
      ∧ (beginAttempt p k s).dt = s.dt ∧ (beginAttempt p k s).reserved = s.reserved
      ∧ (beginAttempt p k s).au = s.au ∧ (beginAttempt p k s).pbc = s.pbc ∧ (beginAttempt p k s).cfg = s.cfg
      ∧ (beginAttempt p k s).ss = s.ss ∧ (beginAttempt p k s).notes = s.notes
      ∧ (beginAttempt p k s).freeCount = s.freeCount ∧ (beginAttempt p k s).base = s.base
      ∧ (beginAttempt p k s).pending = s.pending := by
  simp [beginAttempt]

@[simp] theorem runIdleTimer_frame (p : PortNo) :
    (runIdleTimer p s).mlc = s.mlc ∧ (runIdleTimer p s).smm = s.smm ∧ (runIdleTimer p s).jt = s.jt
      ∧ (runIdleTimer p s).dt = s.dt ∧ (runIdleTimer p s).reserved = s.reserved ∧ (runIdleTimer p s).au = s.au
      ∧ (runIdleTimer p s).pbc = s.pbc ∧ (runIdleTimer p s).cfg = s.cfg ∧ (runIdleTimer p s).ss = s.ss
      ∧ (runIdleTimer p s).notes = s.notes ∧ (runIdleTimer p s).pressOut = s.pressOut
      ∧ (runIdleTimer p s).freeCount = s.freeCount ∧ (runIdleTimer p s).base = s.base
      ∧ (runIdleTimer p s).pending = s.pending := by
  simp only [runIdleTimer]; (repeat' split) <;> simp

@[simp] theorem wakeTable_frame (p : PortNo) :
    (wakeTable p s).mlc = s.mlc ∧ (wakeTable p s).smm = s.smm ∧ (wakeTable p s).jt = s.jt
      ∧ (wakeTable p s).dt = s.dt ∧ (wakeTable p s).reserved = s.reserved ∧ (wakeTable p s).pbc = s.pbc
      ∧ (wakeTable p s).cfg = s.cfg ∧ (wakeTable p s).ss = s.ss ∧ (wakeTable p s).freeCount = s.freeCount
      ∧ (wakeTable p s).base = s.base ∧ (wakeTable p s).pending = s.pending := by
  simp only [wakeTable]; (repeat' split) <;> simp

@[simp] theorem checkBusy_frame (p : PortNo) :
    (checkBusy p s).mlc = s.mlc ∧ (checkBusy p s).smm = s.smm ∧ (checkBusy p s).jt = s.jt
      ∧ (checkBusy p s).dt = s.dt ∧ (checkBusy p s).reserved = s.reserved ∧ (checkBusy p s).au = s.au
      ∧ (checkBusy p s).pbc = s.pbc ∧ (checkBusy p s).cfg = s.cfg ∧ (checkBusy p s).ss = s.ss
      ∧ (checkBusy p s).notes = s.notes ∧ (checkBusy p s).pressOut = s.pressOut
      ∧ (checkBusy p s).freeCount = s.freeCount ∧ (checkBusy p s).base = s.base
      ∧ (checkBusy p s).pending = s.pending := by
  simp only [checkBusy]; (repeat' split) <;> simp

@[simp] theorem settlePort_frame (p : PortNo) :
    (settlePort p s).mlc = s.mlc ∧ (settlePort p s).smm = s.smm ∧ (settlePort p s).jt = s.jt
      ∧ (settlePort p s).dt = s.dt ∧ (settlePort p s).reserved = s.reserved ∧ (settlePort p s).pbc = s.pbc
      ∧ (settlePort p s).cfg = s.cfg ∧ (settlePort p s).ss = s.ss ∧ (settlePort p s).freeCount = s.freeCount
      ∧ (settlePort p s).base = s.base ∧ (settlePort p s).pending = s.pending := by
  simp [settlePort]

@[simp] theorem rewindJob_frame (j : Job) (l : List Flight) :
    (rewindJob j l s).mlc = s.mlc ∧ (rewindJob j l s).smm = s.smm ∧ (rewindJob j l s).dt = s.dt
      ∧ (rewindJob j l s).au = s.au ∧ (rewindJob j l s).pbc = s.pbc ∧ (rewindJob j l s).cfg = s.cfg
      ∧ (rewindJob j l s).ss = s.ss ∧ (rewindJob j l s).pressOut = s.pressOut
      ∧ (rewindJob j l s).freeCount = s.freeCount ∧ (rewindJob j l s).base = s.base
      ∧ (rewindJob j l s).pending = s.pending
      ∧ (rewindJob j l s).jt.lastNum = s.jt.lastNum ∧ (rewindJob j l s).jt.finished = s.jt.finished := by
  simp [rewindJob]

@[simp] theorem rewind_frame (p : PortNo) :
    (rewind p s).mlc = s.mlc ∧ (rewind p s).smm = s.smm ∧ (rewind p s).dt = s.dt ∧ (rewind p s).au = s.au
      ∧ (rewind p s).pbc = s.pbc ∧ (rewind p s).cfg = s.cfg ∧ (rewind p s).ss = s.ss
      ∧ (rewind p s).pressOut = s.pressOut ∧ (rewind p s).freeCount = s.freeCount
      ∧ (rewind p s).base = s.base ∧ (rewind p s).pending = s.pending ∧ (rewind p s).jt.lastNum = s.jt.lastNum
      ∧ (rewind p s).jt.finished = s.jt.finished := by
  simp only [rewind]; (repeat' split) <;> simp

@[simp] theorem countDoubtful_frame (p : PortNo) (d : Nat) :
    (countDoubtful p d s).mlc = s.mlc ∧ (countDoubtful p d s).smm = s.smm ∧ (countDoubtful p d s).dt = s.dt
      ∧ (countDoubtful p d s).reserved = s.reserved ∧ (countDoubtful p d s).au = s.au
      ∧ (countDoubtful p d s).pbc = s.pbc ∧ (countDoubtful p d s).ss = s.ss
      ∧ (countDoubtful p d s).notes = s.notes ∧ (countDoubtful p d s).pressOut = s.pressOut
      ∧ (countDoubtful p d s).freeCount = s.freeCount ∧ (countDoubtful p d s).base = s.base
      ∧ (countDoubtful p d s).pending = s.pending
      ∧ (countDoubtful p d s).jt.lastNum = s.jt.lastNum ∧ (countDoubtful p d s).jt.finished = s.jt.finished := by
  simp only [countDoubtful]; (repeat' split) <;> simp

@[simp] theorem countSpoiled_frame (p : PortNo) (d : Nat) :
    (countSpoiled p d s).mlc = s.mlc ∧ (countSpoiled p d s).smm = s.smm ∧ (countSpoiled p d s).dt = s.dt
      ∧ (countSpoiled p d s).reserved = s.reserved ∧ (countSpoiled p d s).au = s.au
      ∧ (countSpoiled p d s).pbc = s.pbc ∧ (countSpoiled p d s).ss = s.ss ∧ (countSpoiled p d s).notes = s.notes
      ∧ (countSpoiled p d s).pressOut = s.pressOut ∧ (countSpoiled p d s).freeCount = s.freeCount
      ∧ (countSpoiled p d s).base = s.base
      ∧ (countSpoiled p d s).pending = s.pending ∧ (countSpoiled p d s).jt.lastNum = s.jt.lastNum
      ∧ (countSpoiled p d s).jt.finished = s.jt.finished := by
  simp only [countSpoiled]; (repeat' split) <;> simp

@[simp] theorem stall_frame (p : PortNo) (d : Nat) :
    ((stall p d s).1).mlc = s.mlc ∧ ((stall p d s).1).smm = s.smm ∧ ((stall p d s).1).dt = s.dt
      ∧ ((stall p d s).1).au = s.au ∧ ((stall p d s).1).pbc = s.pbc ∧ ((stall p d s).1).ss = s.ss
      ∧ ((stall p d s).1).pressOut = s.pressOut ∧ ((stall p d s).1).freeCount = s.freeCount
      ∧ ((stall p d s).1).base = s.base
      ∧ ((stall p d s).1).pending = s.pending ∧ ((stall p d s).1).jt.lastNum = s.jt.lastNum
      ∧ ((stall p d s).1).jt.finished = s.jt.finished := by
  simp [stall]

@[simp] theorem stallTail_frame (p : PortNo) (d : Nat) :
    (stallTail p d s).mlc = s.mlc ∧ (stallTail p d s).smm = s.smm ∧ (stallTail p d s).jt = s.jt
      ∧ (stallTail p d s).dt = s.dt ∧ (stallTail p d s).reserved = s.reserved ∧ (stallTail p d s).pbc = s.pbc
      ∧ (stallTail p d s).cfg = s.cfg ∧ (stallTail p d s).ss = s.ss ∧ (stallTail p d s).freeCount = s.freeCount
      ∧ (stallTail p d s).base = s.base ∧ (stallTail p d s).pending = s.pending := by
  simp only [stallTail]; (repeat' split) <;> simp

@[simp] theorem comeUp_frame (p : PortNo) (c : Caps) (w : Nat) :
    (comeUp p c w s).mlc = s.mlc ∧ (comeUp p c w s).smm = s.smm ∧ (comeUp p c w s).jt = s.jt
      ∧ (comeUp p c w s).dt = s.dt ∧ (comeUp p c w s).reserved = s.reserved ∧ (comeUp p c w s).pbc = s.pbc
      ∧ (comeUp p c w s).cfg = s.cfg ∧ (comeUp p c w s).ss = s.ss ∧ (comeUp p c w s).pressOut = s.pressOut
      ∧ (comeUp p c w s).freeCount = s.freeCount ∧ (comeUp p c w s).base = s.base
      ∧ (comeUp p c w s).pending = s.pending := by
  simp [comeUp]

end Sys2Proof.Machine
end

