-- ==== Sys2Proof/Laws/Acts.lean ====
section
/-! SUPPORT. What an act can change besides what its event does: settle, the cascade of tasks, the notice queue and the transmitter. -/

namespace Sys2Proof.Machine

variable {s : State}

/-! ### Settle -/

/-- What every `settlePort` keeps, `settle` keeps. -/
theorem settle_ind {P : State → Prop} (h : ∀ p s, P s → P (settlePort p s)) (hs : P s) : P (settle s) := by
  have : ∀ (l : List PortNo) (s : State), P s → P (l.foldl (fun s p => settlePort p s) s) := by
    intro l
    induction l with
    | nil => exact fun _ h => h
    | cons p l ih => exact fun s hs => ih _ (h p s hs)
  exact this allPorts s hs

@[simp] theorem settle_frame :
    (settle s).mlc = s.mlc ∧ (settle s).smm = s.smm ∧ (settle s).jt = s.jt ∧ (settle s).dt = s.dt
      ∧ (settle s).reserved = s.reserved ∧ (settle s).pbc = s.pbc ∧ (settle s).cfg = s.cfg ∧ (settle s).ss = s.ss
      ∧ (settle s).freeCount = s.freeCount ∧ (settle s).base = s.base ∧ (settle s).pending = s.pending := by
  refine settle_ind (P := fun t => t.mlc = s.mlc ∧ t.smm = s.smm ∧ t.jt = s.jt ∧ t.dt = s.dt
      ∧ t.reserved = s.reserved ∧ t.pbc = s.pbc ∧ t.cfg = s.cfg ∧ t.ss = s.ss
      ∧ t.freeCount = s.freeCount ∧ t.base = s.base ∧ t.pending = s.pending) (fun p t h => ?_) (by simp)
  simpa using h

/-! ### The cascade -/

/-- What every task keeps, a list of tasks keeps. -/
theorem runTasks_ind {P : State → Prop} (h : ∀ t s, P s → P (runTask t s).1) :
    ∀ (fuel : Nat) (ts : List Task) (s : State), P s → P (runTasks fuel ts s)
  | 0, _, _, hs => by simpa [runTasks] using hs
  | _ + 1, [], _, hs => by simpa [runTasks] using hs
  | fuel + 1, t :: ts, s, hs => by
    simpa [runTasks] using runTasks_ind h fuel _ _ (h t s hs)

/-- What every task keeps, the cascade keeps. -/
theorem cascade_ind {P : State → Prop} (h : ∀ t s, P s → P (runTask t s).1) (ts : List Task) (hs : P s) :
    P (cascade ts s) := runTasks_ind h _ ts s hs

@[simp] theorem runTask_frame (t : Task) :
    (runTask t s).1.mlc = s.mlc ∧ (runTask t s).1.pbc = s.pbc ∧ (runTask t s).1.cfg = s.cfg
      ∧ (runTask t s).1.ss = s.ss ∧ (runTask t s).1.freeCount = s.freeCount ∧ (runTask t s).1.base = s.base
      ∧ (runTask t s).1.pending = s.pending
      ∧ (runTask t s).1.smm.spool = s.smm.spool ∧ (runTask t s).1.smm.sizeClass = s.smm.sizeClass
      ∧ (runTask t s).1.jt.lastNum = s.jt.lastNum ∧ (runTask t s).1.dt.routeMask = s.dt.routeMask := by
  cases t <;> simp [runTask]

@[simp] theorem cascade_frame (ts : List Task) :
    (cascade ts s).mlc = s.mlc ∧ (cascade ts s).pbc = s.pbc ∧ (cascade ts s).cfg = s.cfg
      ∧ (cascade ts s).ss = s.ss ∧ (cascade ts s).freeCount = s.freeCount ∧ (cascade ts s).base = s.base
      ∧ (cascade ts s).pending = s.pending
      ∧ (cascade ts s).smm.spool = s.smm.spool ∧ (cascade ts s).smm.sizeClass = s.smm.sizeClass
      ∧ (cascade ts s).jt.lastNum = s.jt.lastNum ∧ (cascade ts s).dt.routeMask = s.dt.routeMask := by
  refine cascade_ind (P := fun t => t.mlc = s.mlc ∧ t.pbc = s.pbc ∧ t.cfg = s.cfg
      ∧ t.ss = s.ss ∧ t.freeCount = s.freeCount ∧ t.base = s.base ∧ t.pending = s.pending
      ∧ t.smm.spool = s.smm.spool ∧ t.smm.sizeClass = s.smm.sizeClass
      ∧ t.jt.lastNum = s.jt.lastNum ∧ t.dt.routeMask = s.dt.routeMask) (fun k t h => ?_) ts (by simp)
  simpa using h

/-- With nothing left to follow, the cascade does nothing. -/
@[simp] theorem cascade_nil : cascade [] s = s := by simp [cascade, cascadeFuel, runTasks]

/-- The tasks have at least one step of fuel each. -/
theorem cascadeFuel_pos (ts : List Task) : ∃ k, cascadeFuel ts s = k + 1 := ⟨_, rfl⟩

/-- An act whose only task is `settle` settles. -/
@[simp] theorem cascade_settle : cascade [.settle] s = settle s := by
  have h : cascadeFuel [.settle] s
      = ((allPorts.map (slotWeight s)).sum + (allDests.map (fun d => 55 * (s.queue d).length)).sum + 0 + 1) + 1 := by
    simp [cascadeFuel, Task.weight]; omega
  rw [cascade, h]
  simp [runTasks, runTask]

theorem Task.weight_pos (t : Task) : 1 ≤ t.weight := by cases t <;> simp [Task.weight]

theorem length_le_weight (ts : List Task) : ts.length ≤ (ts.map Task.weight).sum := by
  induction ts with
  | nil => simp
  | cons t ts ih => have := Task.weight_pos t; simp; omega

/-- Tasks that do nothing are passed over. -/
theorem runTasks_idle {pre : List Task} (h : ∀ t ∈ pre, runTask t s = (s, [])) (post : List Task) (fuel : Nat) :
    runTasks (pre.length + fuel) (pre ++ post) s = runTasks fuel post s := by
  induction pre with
  | nil => simp
  | cons t pre ih =>
    have ht := h t (by simp)
    rw [show (t :: pre).length + fuel = (pre.length + fuel) + 1 by simp; omega]
    simp only [List.cons_append, runTasks, ht, List.nil_append]
    exact ih fun u hu => h u (by simp [hu])

/-- The fuel of an act covers its tasks and one more. -/
theorem cascadeFuel_split (pre post : List Task) : ∃ k, cascadeFuel (pre ++ post) s = pre.length + (post.length + (k + 1)) := by
  have h1 := length_le_weight pre
  have h2 := length_le_weight post
  refine ⟨cascadeFuel (pre ++ post) s - pre.length - post.length - 1, ?_⟩
  have : ((pre ++ post).map Task.weight).sum = (pre.map Task.weight).sum + (post.map Task.weight).sum := by simp
  unfold cascadeFuel
  omega

/-- An act whose tasks before `settle` do nothing settles. -/
theorem cascade_idle_settle {pre : List Task} (h : ∀ t ∈ pre, runTask t s = (s, [])) :
    cascade (pre ++ [.settle]) s = settle s := by
  obtain ⟨k, hk⟩ := cascadeFuel_split (s := s) pre [.settle]
  rw [cascade, hk, runTasks_idle h, show [Task.settle].length + (k + 1) = (k + 1) + 1 by simp; omega]
  simp [runTasks, runTask]

/-- The same with a notice at the end. -/
theorem cascade_idle_settle_note {pre : List Task} (h : ∀ t ∈ pre, runTask t s = (s, [])) (k : Byte) (c : List Byte) :
    cascade (pre ++ [.settle, .note k c]) s = (settle s).note k c := by
  obtain ⟨m, hm⟩ := cascadeFuel_split (s := s) pre [.settle, .note k c]
  rw [cascade, hm, runTasks_idle h, show [Task.settle, .note k c].length + (m + 1) = (m + 1) + 1 + 1 by simp; omega]
  simp [runTasks, runTask]

/-! ### The notice queue and the transmitter -/

@[simp] theorem pushNotice_frame (n : Notice) :
    (pushNotice n s).smm = s.smm ∧ (pushNotice n s).jt = s.jt ∧ (pushNotice n s).dt = s.dt
      ∧ (pushNotice n s).ports = s.ports ∧ (pushNotice n s).reserved = s.reserved ∧ (pushNotice n s).au = s.au
      ∧ (pushNotice n s).pbc = s.pbc ∧ (pushNotice n s).cfg = s.cfg ∧ (pushNotice n s).ss = s.ss
      ∧ (pushNotice n s).notes = s.notes ∧ (pushNotice n s).pressOut = s.pressOut
      ∧ (pushNotice n s).freeCount = s.freeCount ∧ (pushNotice n s).base = s.base ∧ (pushNotice n s).pending = s.pending
      ∧ (pushNotice n s).mlc.rx = s.mlc.rx ∧ (pushNotice n s).mlc.holding = s.mlc.holding
      ∧ (pushNotice n s).mlc.tx = s.mlc.tx ∧ (pushNotice n s).mlc.lastReply = s.mlc.lastReply
      ∧ (pushNotice n s).mlc.discarded = s.mlc.discarded ∧ (pushNotice n s).mlc.restart = s.mlc.restart
      ∧ (pushNotice n s).mlc.clock = s.mlc.clock ∧ (pushNotice n s).mlc.resetSeen = s.mlc.resetSeen
      ∧ (pushNotice n s).mlc.clockUnset = s.mlc.clockUnset
      ∧ (pushNotice n s).mlc.defaultsLoaded = s.mlc.defaultsLoaded := by
  simp only [pushNotice]; split <;> simp

/-- A notice queue of at most 32 stays so (R8). -/
theorem pushNotice_bound (n : Notice) (h : s.mlc.notices.length ≤ 32) : (pushNotice n s).mlc.notices.length ≤ 32 := by
  unfold pushNotice noticeCapacity
  by_cases h' : s.mlc.notices.length < 32
  · rw [if_pos h']; simp; omega
  · rw [if_neg h']; simp; omega

/-- What every `pushNotice` keeps, `flushNotes` keeps. -/
theorem flushNotes_ind {P : State → Prop} (h : ∀ n s, P s → P (pushNotice n s)) (hs : P { s with notes := [] }) :
    P (flushNotes s) := by
  have : ∀ (l : List Notice) (s : State), P s → P (l.foldl (fun s n => pushNotice n s) s) := by
    intro l
    induction l with
    | nil => exact fun _ h => h
    | cons n l ih => exact fun s hs => ih _ (h n s hs)
  exact this _ _ hs

@[simp] theorem flushNotes_frame :
    (flushNotes s).smm = s.smm ∧ (flushNotes s).jt = s.jt ∧ (flushNotes s).dt = s.dt
      ∧ (flushNotes s).ports = s.ports ∧ (flushNotes s).reserved = s.reserved ∧ (flushNotes s).au = s.au
      ∧ (flushNotes s).pbc = s.pbc ∧ (flushNotes s).cfg = s.cfg ∧ (flushNotes s).ss = s.ss
      ∧ (flushNotes s).notes = [] ∧ (flushNotes s).pressOut = s.pressOut
      ∧ (flushNotes s).freeCount = s.freeCount ∧ (flushNotes s).base = s.base ∧ (flushNotes s).pending = s.pending
      ∧ (flushNotes s).mlc.rx = s.mlc.rx ∧ (flushNotes s).mlc.holding = s.mlc.holding
      ∧ (flushNotes s).mlc.tx = s.mlc.tx ∧ (flushNotes s).mlc.lastReply = s.mlc.lastReply
      ∧ (flushNotes s).mlc.discarded = s.mlc.discarded ∧ (flushNotes s).mlc.restart = s.mlc.restart
      ∧ (flushNotes s).mlc.clock = s.mlc.clock ∧ (flushNotes s).mlc.resetSeen = s.mlc.resetSeen
      ∧ (flushNotes s).mlc.clockUnset = s.mlc.clockUnset
      ∧ (flushNotes s).mlc.defaultsLoaded = s.mlc.defaultsLoaded := by
  refine flushNotes_ind (P := fun t => t.smm = s.smm ∧ t.jt = s.jt ∧ t.dt = s.dt
      ∧ t.ports = s.ports ∧ t.reserved = s.reserved ∧ t.au = s.au
      ∧ t.pbc = s.pbc ∧ t.cfg = s.cfg ∧ t.ss = s.ss
      ∧ t.notes = [] ∧ t.pressOut = s.pressOut ∧ t.freeCount = s.freeCount ∧ t.base = s.base ∧ t.pending = s.pending
      ∧ t.mlc.rx = s.mlc.rx ∧ t.mlc.holding = s.mlc.holding ∧ t.mlc.tx = s.mlc.tx
      ∧ t.mlc.lastReply = s.mlc.lastReply ∧ t.mlc.discarded = s.mlc.discarded ∧ t.mlc.restart = s.mlc.restart
      ∧ t.mlc.clock = s.mlc.clock ∧ t.mlc.resetSeen = s.mlc.resetSeen ∧ t.mlc.clockUnset = s.mlc.clockUnset
      ∧ t.mlc.defaultsLoaded = s.mlc.defaultsLoaded) (fun n t h => ?_) (by simp)
  simpa using h

/-- An act with no notice leaves the notice queue alone. -/
@[simp] theorem flushNotes_nil (h : s.notes = []) : flushNotes s = s := by
  cases s; simp_all [flushNotes, actNotices]

@[simp] theorem pump_frame :
    (pump s).smm = s.smm ∧ (pump s).jt = s.jt ∧ (pump s).dt = s.dt
      ∧ (pump s).ports = s.ports ∧ (pump s).reserved = s.reserved ∧ (pump s).au = s.au
      ∧ (pump s).pbc = s.pbc ∧ (pump s).cfg = s.cfg ∧ (pump s).ss = s.ss
      ∧ (pump s).notes = s.notes ∧ (pump s).pressOut = s.pressOut
      ∧ (pump s).freeCount = s.freeCount ∧ (pump s).base = s.base ∧ (pump s).pending = s.pending
      ∧ (pump s).mlc.rx = s.mlc.rx ∧ (pump s).mlc.lastReply = s.mlc.lastReply
      ∧ (pump s).mlc.discarded = s.mlc.discarded ∧ (pump s).mlc.restart = s.mlc.restart
      ∧ (pump s).mlc.clock = s.mlc.clock ∧ (pump s).mlc.resetSeen = s.mlc.resetSeen
      ∧ (pump s).mlc.clockUnset = s.mlc.clockUnset ∧ (pump s).mlc.defaultsLoaded = s.mlc.defaultsLoaded := by
  simp only [pump, pickFrame]; (repeat' split) <;> simp [startNotice, startReply]

/-- The transmitter changes no reply in the holding area, only the stage of the oldest entry (R7). -/
@[simp] theorem pump_replies : (pump s).mlc.holding.map (fun e => (e.request, e.reply))
    = s.mlc.holding.map (fun e => (e.request, e.reply)) := by
  have hr : ∀ e f rest, readyReply s.mlc = some (e, f, rest) → s.mlc.holding = e :: rest := by
    intro e f rest h
    unfold readyReply at h
    split at h
    · split at h
      · simp only [Option.some.injEq, Prod.mk.injEq] at h
        obtain ⟨rfl, -, rfl⟩ := h
        assumption
      · cases h
    · cases h
  unfold pump pickFrame
  split
  · split
    · simp [startNotice]
    · rename_i e f rest heq _
      simp [startReply, hr e f rest heq]
    · simp [startNotice]
    · rfl
  · rfl

/-- A notice queue of at most 32 stays so as the transmitter starts a frame (R8). -/
theorem pump_bound (h : s.mlc.notices.length ≤ 32) : (pump s).mlc.notices.length ≤ 32 := by
  simp only [pump, pickFrame]
  split
  · split <;> simp_all [startNotice, startReply] <;> omega
  · exact h

/-! ### The act -/

@[simp] theorem closeAct_frame (ts : List Task) :
    (closeAct (s, ts)).pbc = s.pbc ∧ (closeAct (s, ts)).cfg = s.cfg
      ∧ (closeAct (s, ts)).ss = s.ss ∧ (closeAct (s, ts)).freeCount = s.freeCount
      ∧ (closeAct (s, ts)).base = s.base
      ∧ (closeAct (s, ts)).pending = s.pending ∧ (closeAct (s, ts)).smm.spool = s.smm.spool
      ∧ (closeAct (s, ts)).smm.sizeClass = s.smm.sizeClass ∧ (closeAct (s, ts)).jt.lastNum = s.jt.lastNum
      ∧ (closeAct (s, ts)).dt.routeMask = s.dt.routeMask ∧ (closeAct (s, ts)).notes = []
      ∧ (closeAct (s, ts)).mlc.rx = s.mlc.rx ∧ (closeAct (s, ts)).mlc.lastReply = s.mlc.lastReply
      ∧ (closeAct (s, ts)).mlc.discarded = s.mlc.discarded ∧ (closeAct (s, ts)).mlc.restart = s.mlc.restart
      ∧ (closeAct (s, ts)).mlc.clock = s.mlc.clock ∧ (closeAct (s, ts)).mlc.resetSeen = s.mlc.resetSeen
      ∧ (closeAct (s, ts)).mlc.clockUnset = s.mlc.clockUnset
      ∧ (closeAct (s, ts)).mlc.defaultsLoaded = s.mlc.defaultsLoaded := by
  simp [closeAct]

/-- The replies in the holding area are those the event left there. -/
@[simp] theorem closeAct_replies (ts : List Task) :
    (closeAct (s, ts)).mlc.holding.map (fun e => (e.request, e.reply))
      = s.mlc.holding.map (fun e => (e.request, e.reply)) := by
  simp [closeAct]

/-- What the tasks keep, and what does not depend on the message link or the notes, an act keeps. -/
theorem closeAct_ind {P : State → Prop} (ht : ∀ k t, P t → P (runTask k t).1)
    (hm : ∀ t u : State, P t → u.smm = t.smm → u.jt = t.jt → u.dt = t.dt → u.ports = t.ports →
      u.reserved = t.reserved → u.au = t.au → u.cfg = t.cfg → P u) (ts : List Task) (hs : P s) :
    P (closeAct (s, ts)) := by
  have h := cascade_ind ht ts hs
  exact hm _ _ h (by simp [closeAct]) (by simp [closeAct]) (by simp [closeAct]) (by simp [closeAct])
    (by simp [closeAct]) (by simp [closeAct]) (by simp [closeAct])

@[simp] theorem openAct_frame :
    (openAct s).mlc = s.mlc ∧ (openAct s).smm = s.smm ∧ (openAct s).jt = s.jt ∧ (openAct s).dt = s.dt
      ∧ (openAct s).ports = s.ports ∧ (openAct s).reserved = s.reserved ∧ (openAct s).au = s.au
      ∧ (openAct s).pbc = s.pbc ∧ (openAct s).cfg = s.cfg ∧ (openAct s).ss = s.ss ∧ (openAct s).notes = s.notes
      ∧ (openAct s).freeCount = s.freeCount ∧ (openAct s).base.secondAt = s.base.secondAt
      ∧ (openAct s).base.now = s.nextMoment ∧ (openAct s).pending = s.pending := by simp [openAct]

/-! ### The time base -/

/-- What R156 makes of the horn, entry by entry. -/
theorem hornNow_iff : s.hornNow = true ↔ s.cfg.escalation ≠ 0 ∧ s.au.silenced = false
    ∧ ∃ e, (s.alert e).state = .raised ∧ (s.alert e).escalatesAt s.cfg.escalation ≤ s.base.now := by
  have h : ∀ p : Alert → Bool, s.au.alerts.any p = true ↔ ∃ e, p (s.alert e) = true := fun p => by
    simp [Vector.any_eq_true, State.alert, Fin.exists_iff]
  simp [State.hornNow, and_assoc, h]

/-- The time before a command never goes back, does not pass the end of the current second, and passes no moment at which
an entry reaches the escalation time (log 10). -/
theorem nextMoment_bounds : s.base.now ≤ s.nextMoment ∧ (s.base.now ≤ s.nextIncrement → s.nextMoment ≤ s.nextIncrement)
    ∧ ∀ e, (s.alert e).state = .raised → s.cfg.escalation ≠ 0 → s.base.now < (s.alert e).escalatesAt s.cfg.escalation →
        s.nextMoment < (s.alert e).escalatesAt s.cfg.escalation := by
  unfold State.nextMoment
  dsimp only
  split
  · exact ⟨Nat.le_refl _, id, fun _ _ _ h => h⟩
  · rename_i h
    refine ⟨by omega, fun _ => by omega, fun e he hc hn => ?_⟩
    by_contra hl
    refine h ?_
    simp only [State.escalatesBy, Bool.and_eq_true, bne_iff_ne, ne_eq, hc, not_false_eq_true, true_and, List.any_eq_true]
    exact ⟨s.alert e, by simp [State.alert], by
      simp only [he, BEq.rfl, hn, decide_true, true_and, decide_eq_true_eq]; exact Nat.not_lt.mp hl⟩

end Sys2Proof.Machine
end

