-- ==== Sys2Proof/Laws/Jobs.lean ====
section
/-! SUPPORT. Jobs by number: what a named job reads as after an update, and updates that fuse or agree; the port that holds a job. -/

namespace Sys2Proof.Machine

variable {s t : State} {n m : Nat} {f g : Job → Job} {j : Job}

/-! ### Jobs by number -/

theorem find_updateJob (hf : ∀ j, (f j).num = j.num) (l : List Job) :
    (updateJob n f l).find? (fun j => j.num == m)
      = if m = n then (l.find? (fun j => j.num == n)).map f else l.find? (fun j => j.num == m) := by
  induction l with
  | nil => simp [updateJob]
  | cons x l ih =>
    unfold updateJob
    by_cases hx : x.num = n
    · by_cases hm : m = n
      · simp [hx, hm, hf]
      · have h1 : (n == m) = false := by simpa using fun h => hm h.symm
        simp [hx, hm, hf, h1]
    · by_cases hm : m = n
      · subst hm; simpa [hx] using ih
      · by_cases hxm : x.num = m
        · simp [hm, hxm]
        · simpa [hx, hm, hxm] using ih

/-- A job after an update that keeps its number. -/
theorem job?_modJob (hf : ∀ j, (f j).num = j.num) :
    (s.modJob n f).job? m = if m = n then (s.job? n).map f else s.job? m := by
  unfold State.job? State.modJob
  by_cases hm : m = 0
  · subst hm
    by_cases hn : 0 = n
    · subst hn; simp
    · simp [hn]
  · by_cases hmn : m = n
    · subst hmn; simp [hm, find_updateJob hf]
    · simp [hm, hmn, find_updateJob hf]

theorem updateJob_updateJob (hf : ∀ j, (f j).num = j.num) (l : List Job) :
    updateJob n g (updateJob n f l) = updateJob n (fun j => g (f j)) l := by
  induction l with
  | nil => rfl
  | cons x l ih => by_cases hx : x.num = n <;> simp [updateJob, hx, hf, ih]

/-- Two updates of one job are one. -/
theorem modJob_modJob (hf : ∀ j, (f j).num = j.num) : (s.modJob n f).modJob n g = s.modJob n (fun j => g (f j)) := by
  simp [State.modJob, updateJob_updateJob hf]

theorem updateJob_congr (l : List Job) (h : ∀ j, l.find? (fun j => j.num == n) = some j → f j = g j) :
    updateJob n f l = updateJob n g l := by
  induction l with
  | nil => rfl
  | cons x l ih =>
    unfold updateJob
    by_cases hx : x.num = n
    · simp [hx, h x (by simp [hx])]
    · simp only [hx, if_false]; rw [ih fun j hj => h j (by simpa [hx] using hj)]

/-- Updates that agree on the job they update are the same. -/
theorem modJob_congr (hn : n ≠ 0) (hj : s.job? n = some j) (h : f j = g j) : s.modJob n f = s.modJob n g := by
  have : updateJob n f s.jt.jobs = updateJob n g s.jt.jobs :=
    updateJob_congr _ fun k hk => by
      have : s.job? n = some k := by simpa [State.job?, hn] using hk
      rw [hj] at this; cases this; exact h
  simp [State.modJob, this]

theorem job?_num (h : s.job? n = some j) : j.num = n := by
  unfold State.job? at h
  split at h
  · cases h
  · simpa using List.find?_some h

theorem job?_ne_zero (h : s.job? n = some j) : n ≠ 0 := by rintro rfl; simp [State.job?] at h

theorem job?_mem (h : s.job? n = some j) : j ∈ s.jt.jobs := by
  unfold State.job? at h
  split at h
  · cases h
  · exact List.mem_of_find?_eq_some h

/-- A job depends on the job records alone. -/
theorem job?_congr (h : t.jt.jobs = s.jt.jobs) : t.job? n = s.job? n := by simp [State.job?, h]

@[simp] theorem job?_setPort (p : PortNo) (x : Port) : (s.setPort p x).job? n = s.job? n := job?_congr (by simp)
@[simp] theorem job?_modPort (p : PortNo) (h : Port → Port) : (s.modPort p h).job? n = s.job? n := job?_congr (by simp)
@[simp] theorem job?_setQueue (d : Fin 32) (q : List Nat) : (s.setQueue d q).job? n = s.job? n := job?_congr (by simp)
@[simp] theorem job?_setAccount (a : Fin 128) (x : Account) : (s.setAccount a x).job? n = s.job? n :=
  job?_congr (by simp)
@[simp] theorem job?_setReservation (a : Fin 128) (x : Reserved) : (s.setReservation a x).job? n = s.job? n :=
  job?_congr (by simp)
@[simp] theorem job?_setPanel (a : Fin 8) (x : Panel) : (s.setPanel a x).job? n = s.job? n := job?_congr (by simp)
@[simp] theorem job?_note (k : Byte) (c : List Byte) : (s.note k c).job? n = s.job? n := job?_congr (by simp)
@[simp] theorem job?_noteJob (r : JobReason) : (s.noteJob m r).job? n = s.job? n := job?_congr (by simp)
@[simp] theorem job?_notePort (p : PortNo) : (s.notePort p).job? n = s.job? n := job?_congr (by simp)
@[simp] theorem job?_evalMedia (p : PortNo) : (evalMedia p s).job? n = s.job? n := job?_congr (by simp)
@[simp] theorem job?_evalSpoolLow : (evalSpoolLow s).job? n = s.job? n := job?_congr (by simp)
@[simp] theorem job?_freeImages : (freeImages m s).job? n = s.job? n := job?_congr (by simp)
@[simp] theorem job?_clearBusy (p : PortNo) : (clearBusy p s).job? n = s.job? n := job?_congr (by simp)
@[simp] theorem job?_leaveRun (p : PortNo) : (leaveRun p s).job? n = s.job? n := job?_congr (by simp)
@[simp] theorem job?_reserve (a : Fin 128) (c k : Nat) : (reserve a c k s).job? n = s.job? n := job?_congr (by simp)
@[simp] theorem job?_release (a : Fin 128) (c k : Nat) : (release a c k s).job? n = s.job? n := job?_congr (by simp)

/-! ### The port that holds a job -/

theorem mem_allPorts (p : PortNo) : p ∈ allPorts := by revert p; decide

/-- A port of sixteen is found by a test that it alone passes. -/
theorem find_allPorts {q : PortNo → Bool} {p : PortNo} (h : ∀ x, q x = true ↔ x = p) : allPorts.find? q = some p := by
  cases hc : allPorts.find? q with
  | none => exact absurd ((h p).2 rfl) (by simpa using List.find?_eq_none.1 hc p (mem_allPorts p))
  | some x => rw [(h x).1 (List.find?_some hc)]

/-- No port of sixteen is found by a test that none passes. -/
theorem find_allPorts_none {q : PortNo → Bool} (h : ∀ x, q x = false) : allPorts.find? q = none := by
  simp [List.find?_eq_none, h]

theorem runPort_eq {p : PortNo} (h : ∀ q, (s.port q).run = some n ↔ q = p) : s.runPort n = some p :=
  find_allPorts fun q => by simpa using h q

theorem runPort_none (h : ∀ q, (s.port q).run ≠ some n) : s.runPort n = none :=
  find_allPorts_none fun q => by simpa using h q

theorem runPort_some {p : PortNo} (h : s.runPort n = some p) : (s.port p).run = some n := by
  simpa using List.find?_some h

theorem suspPort_eq {p : PortNo} {why : SuspReason} (hp : (s.port p).susp = some { job := n, reason := why })
    (h : ∀ q, q ≠ p → ∀ u ∈ (s.port q).susp, u.job ≠ n) : s.suspPort n = some p :=
  find_allPorts fun q => by
    constructor
    · intro hq
      by_contra hne
      cases hs : (s.port q).susp with
      | none => simp [hs] at hq
      | some u => simp [hs] at hq; exact h q hne u hs hq
    · rintro rfl; simp [hp]

theorem suspPort_none (h : ∀ q, ∀ u ∈ (s.port q).susp, u.job ≠ n) : s.suspPort n = none :=
  find_allPorts_none fun q => by
    cases hs : (s.port q).susp with
    | none => rfl
    | some u => simpa using h q u hs

theorem incPort_eq {p : PortNo} (h : ∀ q, (s.port q).inc = some n ↔ q = p) : s.incPort n = some p :=
  find_allPorts fun q => by simpa using h q

theorem incPort_none (h : ∀ q, (s.port q).inc ≠ some n) : s.incPort n = none :=
  find_allPorts_none fun q => by simpa using h q

/-- The port whose run slot holds a job depends on the run slots alone. -/
theorem runPort_congr (h : ∀ q, (t.port q).run = (s.port q).run) : t.runPort n = s.runPort n := by
  simp [State.runPort, h]

end Sys2Proof.Machine
end

