-- ==== Sys2Proof/Laws/Requests.lean ====
section
/-! SUPPORT. What a request and a panel action come to: once for every owner, by what the owner answers; and what a load of the settings image takes. -/

namespace Sys2Proof.Machine

variable {s : State}

/-! ### The settings image (R166, R167) -/

@[simp] theorem sealed_contents (g : Settings) : g.sealed.contents = g := rfl
@[simp] theorem sealed_check (g : Settings) : g.sealed.check = Config.imageCheck g := rfl
@[simp] theorem sealed_passes (g : Settings) : g.sealed.passes = g.valid := by simp [SettingsImage.passes]

/-- What a write has stored loads again as it was captured, if its items are in range. -/
theorem loadImage_sealed (g : Settings) :
    loadImage (some g.sealed) = if g.valid then (g, false) else (Settings.factory, true) := by simp [loadImage]

/-- What a load takes: the contents of an image that passes its check, or the factory values. -/
theorem loadImage_cases (stored : Option SettingsImage) :
    (∃ m, stored = some m ∧ m.check = Config.imageCheck m.contents ∧ m.contents.valid = true
        ∧ loadImage stored = (m.contents, false))
      ∨ loadImage stored = (Settings.factory, true) := by
  rcases stored with _ | m
  · exact .inr rfl
  · by_cases h : m.passes = true
    · have hp := h
      simp only [SettingsImage.passes, Bool.and_eq_true, beq_iff_eq] at h
      exact .inl ⟨m, rfl, h.1, h.2, by simp [loadImage, hp]⟩
    · exact .inr (by simp [loadImage, h])

@[simp] theorem taking_frame :
    s.taking.mlc = s.mlc ∧ s.taking.smm = s.smm ∧ s.taking.jt = s.jt ∧ s.taking.dt.queues = s.dt.queues
      ∧ s.taking.dt.routeMask = none ∧ s.taking.ports = s.ports ∧ s.taking.reserved = s.reserved
      ∧ s.taking.au = s.au ∧ s.taking.pbc = s.pbc ∧ s.taking.cfg = s.cfg ∧ s.taking.ss = s.ss
      ∧ s.taking.notes = s.notes ∧ s.taking.pressOut = [] ∧ s.taking.freeCount = s.freeCount
      ∧ s.taking.base = (openAct s).base ∧ s.taking.pending = s.pending := by
  simp [State.taking, consumeMask, openAct]

@[simp] theorem job?_taking (n : Nat) : s.taking.job? n = s.job? n := job?_congr (by simp)
@[simp] theorem port_taking (p : PortNo) : s.taking.port p = s.port p := by simp [State.port]
@[simp] theorem dest_taking (d : Fin 32) : s.taking.dest d = s.dest d := by simp [State.dest]
@[simp] theorem queue_taking (d : Fin 32) : s.taking.queue d = s.queue d := by simp [State.queue]
@[simp] theorem account_taking (a : Fin 128) : s.taking.account a = s.account a := by simp [State.account]
@[simp] theorem portCfg_taking (p : PortNo) : s.taking.portCfg p = s.portCfg p := by simp [State.portCfg]
@[simp] theorem clock_taking : s.taking.clock = s.clock := by simp [State.clock]

@[simp] theorem heard_frame (a : Fin 8) :
    (s.heard a).mlc = s.mlc ∧ (s.heard a).smm = s.smm ∧ (s.heard a).jt = s.jt ∧ (s.heard a).dt = s.dt
      ∧ (s.heard a).ports = s.ports ∧ (s.heard a).reserved = s.reserved ∧ (s.heard a).au = s.au
      ∧ (s.heard a).cfg = s.cfg ∧ (s.heard a).ss = s.ss ∧ (s.heard a).notes = s.notes
      ∧ (s.heard a).pressOut = [] ∧ (s.heard a).freeCount = s.freeCount ∧ (s.heard a).base = (openAct s).base
      ∧ (s.heard a).pending = s.pending := by
  simp [State.heard, endExchange, openAct]

@[simp] theorem job?_heard (a : Fin 8) (n : Nat) : (s.heard a).job? n = s.job? n := job?_congr (by simp)
@[simp] theorem port_heard (a : Fin 8) (p : PortNo) : (s.heard a).port p = s.port p := by simp [State.port]
@[simp] theorem dest_heard (a : Fin 8) (d : Fin 32) : (s.heard a).dest d = s.dest d := by simp [State.dest]
@[simp] theorem queue_heard (a : Fin 8) (d : Fin 32) : (s.heard a).queue d = s.queue d := by simp [State.queue]
@[simp] theorem panelCfg_heard (a b : Fin 8) : (s.heard a).panelCfg b = s.panelCfg b := by simp [State.panelCfg]
@[simp] theorem clock_heard (a : Fin 8) : (s.heard a).clock = s.clock := by simp [State.clock]

/-- A request that its block accepts. -/
theorem hostRequest_ok {kind : Nat} {tag : Byte} {payload : List Byte} {h : Handler} {r : Accepted}
    (ht : s.takes) (hp : payload.length ≤ maxPayload)
    (hm : mlcCheck (BitVec.ofNat 8 kind) tag payload.length = none) (hh : h s.dt.routeMask s.taking = .ok r) :
    hostRequest kind tag payload h s
      = closeAct (answer { kind := BitVec.ofNat 8 kind, tag := tag, payload := payload } .ok r.contents r.st, r.tasks) := by
  have h1 : ¬ holdingCapacity ≤ (openAct s).mlc.holding.length := by simpa using ht.1
  have h2 : ¬ ((openAct s).mlc.restart.isSome = true) := by simp [ht.2]
  have h3 : (openAct s).dt.routeMask = s.dt.routeMask := by simp
  rw [hostRequest, if_neg (by omega), act, present, if_neg h1, if_neg h2, takeRequest]
  simp only [hm, h3]
  rw [show consumeMask (openAct s) = s.taking from rfl, hh]

/-- A request that its block refuses. -/
theorem hostRequest_error {kind : Nat} {tag : Byte} {payload : List Byte} {h : Handler} {e : Status}
    (ht : s.takes) (hp : payload.length ≤ maxPayload)
    (hm : mlcCheck (BitVec.ofNat 8 kind) tag payload.length = none) (hh : h s.dt.routeMask s.taking = .error e) :
    hostRequest kind tag payload h s
      = closeAct (answer { kind := BitVec.ofNat 8 kind, tag := tag, payload := payload } e [] s.taking, []) := by
  have h1 : ¬ holdingCapacity ≤ (openAct s).mlc.holding.length := by simpa using ht.1
  have h2 : ¬ ((openAct s).mlc.restart.isSome = true) := by simp [ht.2]
  have h3 : (openAct s).dt.routeMask = s.dt.routeMask := by simp
  rw [hostRequest, if_neg (by omega), act, present, if_neg h1, if_neg h2, takeRequest]
  simp only [hm, h3]
  rw [show consumeMask (openAct s) = s.taking from rfl, hh]

/-- A request that fails the MLC's own checks. -/
theorem hostRequest_bad {kind : Nat} {tag : Byte} {payload : List Byte} {h : Handler} {e : Status}
    (ht : s.takes) (hp : payload.length ≤ maxPayload)
    (hm : mlcCheck (BitVec.ofNat 8 kind) tag payload.length = some e) :
    hostRequest kind tag payload h s
      = closeAct (answer { kind := BitVec.ofNat 8 kind, tag := tag, payload := payload } e [] s.taking, []) := by
  have h1 : ¬ holdingCapacity ≤ (openAct s).mlc.holding.length := by simpa using ht.1
  have h2 : ¬ ((openAct s).mlc.restart.isSome = true) := by simp [ht.2]
  rw [hostRequest, if_neg (by omega), act, present, if_neg h1, if_neg h2, takeRequest]
  simp only [hm]
  rw [show consumeMask (openAct s) = s.taking from rfl]

/-- The good reply of a PRESENT panel, before its action is decided. -/
theorem goodReply_present {a : Fin 8} (h : (s.panel a).present = true) : goodReply a (openAct s) = s.heard a := by
  have h1 : (endExchange (openAct s)).panel a = s.panel a := rfl
  have h2 : (endExchange (openAct s)).clock = s.mlc.clock := rfl
  simp only [goodReply, h1, h2, h, if_true]
  rfl

/-- A panel's last action record is not touched by its good reply. -/
theorem panel_heard (a : Fin 8) : (s.heard a).panel a
    = { s.panel a with present := true, misses := 0, lastReply := some s.mlc.clock } := by
  simp [State.heard]

theorem awaits_repetition {a : Fin 8} {level : Rights} {number code : Byte} (h : s.awaits a level number code) :
    isRepetition ((s.heard a).panel a) number code = false := by
  obtain ⟨-, -, -, h⟩ := h
  rw [panel_heard]
  unfold isRepetition
  split
  · rename_i r hr; simpa using h r hr
  · rfl

/-- The good reply of a panel whose action is in range, within its rights, no repetition, and accepted. -/
theorem onAnswer_ok {a : Fin 8} {level : Rights} {code number : Byte} {argument : Half} {r : Accepted}
    (h : s.awaits a level number code) (hc : code ≠ 0) (hr : panelAction a code.toNat argument.toNat (s.heard a) = .ok r) :
    act (onAnswer (BitVec.ofNat 8 a.val) code number argument) s
      = closeAct (r.st.recorded a number code argument.toNat .ok,
          r.tasks ++ [.note 0x74 (panelEvent a 2 code.toNat argument.toNat Status.ok.code)]) := by
  obtain ⟨⟨poll, hp⟩, hpr, -⟩ := id h
  have h1 : (openAct s).pbc.awaiting = some ⟨a, poll⟩ := by simpa using hp
  have h2 : a.val % 256 = a.val := by omega
  simp only [act, onAnswer, h1, BitVec.toNat_ofNat, Nat.reducePow, h2, if_true, goodReply_present hpr, decideAnswer, hc,
    if_false, awaits_repetition h, hr, Bool.false_eq_true]
  rfl

/-- The good reply of a panel whose action is refused. -/
theorem onAnswer_error {a : Fin 8} {level : Rights} {code number : Byte} {argument : Half} {e : Status}
    (h : s.awaits a level number code) (hc : code ≠ 0)
    (hr : panelAction a code.toNat argument.toNat (s.heard a) = .error e) :
    act (onAnswer (BitVec.ofNat 8 a.val) code number argument) s
      = closeAct ((s.heard a).recorded a number code argument.toNat e,
          [.note 0x74 (panelEvent a 2 code.toNat argument.toNat e.code)]) := by
  obtain ⟨⟨poll, hp⟩, hpr, -⟩ := id h
  have h1 : (openAct s).pbc.awaiting = some ⟨a, poll⟩ := by simpa using hp
  have h2 : a.val % 256 = a.val := by omega
  simp only [act, onAnswer, h1, BitVec.toNat_ofNat, Nat.reducePow, h2, if_true, goodReply_present hpr, decideAnswer, hc,
    if_false, awaits_repetition h, hr, Bool.false_eq_true]
  rfl

theorem cascade_note (k : Byte) (c : List Byte) : cascade [.note k c] s = s.note k c := by
  have h : cascadeFuel [.note k c] s
      = ((allPorts.map (slotWeight s)).sum + (allDests.map (fun d => 55 * (s.queue d).length)).sum + 0 + 1) + 1 := by
    simp [cascadeFuel, Task.weight]; omega
  rw [cascade, h]
  simp [runTasks, runTask]

/-- A PANEL_EVENT "action" as the model composes it. -/
theorem panelNote_eq (a : Fin 8) (code : Byte) (argument : Nat) (r : Status) :
    s.panelNote a code argument r = s.note 0x74 (panelEvent a 2 code.toNat argument r.code) := by
  simp [State.panelNote, panelEvent, be8]

/-! ### Pulls and offers that find nobody -/

/-- A pull does nothing while the run slot is full, or while nobody waits. -/
theorem pull_nothing {p : PortNo} (h : (s.port p).run ≠ none ∨ s.nobodyWaits p) : pull p s = (s, []) := by
  unfold pull
  dsimp only
  rcases h with h | ⟨h1, h2, h3⟩
  · rw [if_pos (by simpa [Option.isSome_iff_ne_none] using h)]
  · have hq : pullQueues p s = (s, []) := by simp [pullQueues, h3]
    split
    · rfl
    · simp only [h1]
      split
      · rename_i u hu
        rw [if_pos (h2 u hu), hq]
      · exact hq

/-- A dispatch is not made at a port that is not usable. -/
theorem dispatch_nothing {p : PortNo} (h : (s.port p).usable = false) : dispatch p s = (s, []) := by
  unfold dispatch dispatchReady
  split
  · rfl
  · simp [h]

/-- A job that joins the queue of a destination where nobody takes it is placed nowhere. -/
theorem offer_nothing {n : Nat} (h : ∀ j, s.job? n = some j → s.noTaker j.dest) : offerJob n s = (s, []) := by
  unfold offerJob
  split
  · rfl
  · rename_i j hj
    have hd := h j hj
    dsimp only
    split
    · rfl
    · rename_i hc
      have hm : ∀ p ∈ (s.dest j.dest).members, (s.port p).usable = false := by
        rcases hd with hd | hd
        · simp [hd] at hc
        · exact hd
      have h1 : (s.dest j.dest).members.find? (offerTakes s j) = none := by
        simp only [List.find?_eq_none]; intro p hp; simp [offerTakes, hm p hp]
      have h2 : (s.dest j.dest).members.find? (insertionFits s j) = none := by
        simp only [List.find?_eq_none]; intro p hp; simp [insertionFits, hm p hp]
      simp [h1, h2]

end Sys2Proof.Machine
end

