-- ==== Sys2Proof/Laws/JobActions.lean ====
section
/-! SUPPORT. The job actions that the host and the panels share, once for both, and the updates their effects are made of. -/

namespace Sys2Proof.Machine

/-- What the Job Table does for a verb. -/
def doVerb : JobVerb → Who → Nat → State → Answer
  | .hold => doHold | .release => doRelease | .suspend => doSuspend | .resume => doResume | .cancel => doCancel

theorem verb_host_exec (v : JobVerb) (tag : Byte) (job : Half) (s : State) :
    exec (v.host tag job) s = .next (hostRequest v.kind.toNat tag (halfBytes job) (fun _ => doVerb v .host job.toNat) s) := by
  cases v <;> rfl

theorem verb_panel_exec (v : JobVerb) (p num : Byte) (job : Half) (s : State) :
    exec (v.panel p num job) s = .next (act (onAnswer p v.code num job) s) := by
  cases v <;> rfl

theorem verb_check (v : JobVerb) (tag : Byte) (job : Half) (h : tag ≠ 0) :
   mlcCheck (BitVec.ofNat 8 v.kind.toNat) tag (halfBytes job).length = none := by
  have h' : ¬ tag = 0#8 := h
  cases v <;> simp [mlcCheck, h', JobVerb.kind, kindLengths, halfBytes, be16]

theorem verb_action (v : JobVerb) (a : Fin 8) (job : Half) (num : Byte) (s : State) (h : s.awaits a v.level num v.code) :
   panelAction a v.code.toNat job.toNat (s.heard a) = doVerb v .panel job.toNat (s.heard a) := by
  obtain ⟨-, -, h, -⟩ := h
  cases v <;>
  · simp only [JobVerb.level, JobVerb.code] at *
    simp [panelAction, actionInRange, leastLevel, ownerAction, doVerb]
    omega

/-- `t` is `s` as the owner of a request or action sees it: the blocks it acts on are the same. -/
def Sees (s t : State) : Prop :=
  t.jt = s.jt ∧ t.smm = s.smm ∧ t.ports = s.ports ∧ t.cfg = s.cfg ∧ t.dt.queues = s.dt.queues ∧ t.mlc.clock = s.mlc.clock
   ∧ t.au = s.au ∧ t.reserved = s.reserved ∧ t.notes = s.notes ∧ t.ss = s.ss

theorem sees_taking (s : State) : Sees s s.taking := by simp [Sees]
theorem sees_heard (s : State) (a) : Sees s (s.heard a) := by simp [Sees]

theorem jobRefused_of (v w job s e) (h : ∀ t, Sees s t → doVerb v w job.toNat t = .error e) : JobRefused v w job s e := by
  cases w
  · intro tag ht hs
    rw [Answers, Ends, verb_host_exec, hostRequest_error hs (by simp [halfBytes, be16, maxPayload]) (verb_check v tag job ht) (h _ (sees_taking s))]
    simp [closeAct, jobFrame]
  · intro a num ha
    rw [PanelRefused, Ends, verb_panel_exec, onAnswer_error ha (by cases v <;> decide) (by rw [verb_action v a job num s ha]; exact h _ (sees_heard s a))]
    simp [closeAct, cascade_note, panelNote_eq]

/-- `u` is `t` with a reply composed or an action recorded: the floor is the same. -/
def Deco (t u : State) : Prop := u.jt = t.jt ∧ u.smm = t.smm ∧ u.ports = t.ports ∧ u.cfg = t.cfg ∧ u.dt = t.dt
   ∧ u.mlc.clock = t.mlc.clock ∧ u.au = t.au ∧ u.reserved = t.reserved ∧ u.notes = t.notes

/-- A job action whose tasks ahead of `settle` do nothing. -/
theorem jobAction_of (v w job s) (f : State → State) (pre : State → List Task)
    (h : ∀ t, Sees s t → doVerb v w job.toNat t = .ok { st := f t, tasks := pre t ++ [.settle] })
    (hp : ∀ t u, Sees s t → Deco (f t) u → ∀ k ∈ pre t, runTask k u = (u, [])) : JobAction v w job s settle f := by
  cases w
  · intro tag ht hs
    rw [Ends, verb_host_exec, hostRequest_ok hs (by simp [halfBytes, be16, maxPayload]) (verb_check v tag job ht) (h _ (sees_taking s))]
    have := cascade_idle_settle (hp _ (answer (jobFrame v.kind tag job) .ok [] (f s.taking)) (sees_taking s) (by simp [Deco, answer]))
    simp only [closeAct, jobFrame, BitVec.ofNat_toNat, BitVec.setWidth_eq] at *
    rw [this]
  · intro a num ha
    rw [PanelDoes, Ends, verb_panel_exec, onAnswer_ok ha (by cases v <;> decide) (by rw [verb_action v a job num s ha]; exact h _ (sees_heard s a))]
    have := cascade_idle_settle_note (hp _ ((f (s.heard a)).recorded a num v.code job.toNat .ok) (sees_heard s a) (by simp [Deco, State.recorded])) 0x74 (panelEvent a 2 v.code.toNat job.toNat Status.ok.code)
    simp only [closeAct, List.append_assoc, List.cons_append, List.nil_append] at *
    rw [this, panelNote_eq]

theorem Sees.job {s t : State} (h : Sees s t) (n : Nat) : t.job? n = s.job? n := job?_congr (by rw [h.1])
theorem Sees.port {s t : State} (h : Sees s t) (p : PortNo) : t.port p = s.port p := by simp [State.port, h.2.2.1]
theorem Sees.dest {s t : State} (h : Sees s t) (p) : t.dest p = s.dest p := by simp [State.dest, h.2.2.2.1]
theorem Sees.queue {s t : State} (h : Sees s t) (p) : t.queue p = s.queue p := by simp [State.queue, h.2.2.2.2.1]
theorem Sees.clock {s t : State} (h : Sees s t)  : t.clock = s.clock := by simp [State.clock, h.2.2.2.2.2.1]
theorem Deco.port {s t : State} (h : Deco s t) (p : PortNo) : t.port p = s.port p := by simp [State.port, h.2.2.1]
theorem Deco.job {s t : State} (h : Deco s t) (n : Nat) : t.job? n = s.job? n := job?_congr (by rw [h.1])
theorem Deco.dest {s t : State} (h : Deco s t) (p) : t.dest p = s.dest p := by simp [State.dest, h.2.2.2.1]

theorem ending_iff (st : JobState) : st.ending = true ↔ st ∈ [JobState.cancelling, .done, .cancelled] := by
  cases st <;> simp [JobState.ending]

theorem slotless_run {s t : State} {n} (h : s.slotless n) (ht : ∀ q, (t.port q).run = (s.port q).run) : t.runPort n = none :=
  runPort_none fun q => by rw [ht]; exact (h q).1

theorem modJob_noteJob (s : State) (n m : Nat) (f r) : (s.noteJob m r).modJob n f = (s.modJob n f).noteJob m r := by
  by_cases h : hasJobNote m s.notes <;> simp [State.noteJob, State.modJob, h]
theorem modJob_modPort (s : State) (n : Nat) (p f g) : (s.modPort p g).modJob n f = (s.modJob n f).modPort p g := rfl
theorem modJob_setQueue (s : State) (n : Nat) (p f g) : (s.setQueue p g).modJob n f = (s.modJob n f).setQueue p g := rfl


theorem setJobState_slotless {s : State} {n j st r} (hj : s.job? n = some j) (h : j.state ≠ st) (hp : s.runPort n = none) :
   setJobState n st r s = (s.modJob n (fun j => { j with state := st })).noteJob n r := by
  have : ((s.modJob n (fun j => { j with state := st })).noteJob n r).runPort n = none := by
    rw [← hp]; exact runPort_congr (by intro q; simp [State.port])
  simp [setJobState, hj, h, this]

theorem setJobState_at {s : State} {n j st r p} (hj : s.job? n = some j) (h : j.state ≠ st) (hp : s.runPort n = some p) (hs : st ≠ .running) :
   setJobState n st r s = ((s.modJob n (fun j => { j with state := st })).noteJob n r).modPort p (fun x => { x with busy := false }) := by
  have : ((s.modJob n (fun j => { j with state := st })).noteJob n r).runPort n = some p := by
    rw [← hp]; exact runPort_congr (by intro q; simp [State.port])
  simp [setJobState, hj, h, this, hs, clearBusy]

theorem setJobState_same {s : State} {n j st r} (hj : s.job? n = some j) (h : j.state = st)  :
   setJobState n st r s = s := by
  simp [setJobState, hj, h]

theorem modPort_noteJob (s : State) (p f n r) : (s.noteJob n r).modPort p f = (s.modPort p f).noteJob n r := by
  by_cases h : hasJobNote n s.notes <;> simp [State.noteJob, State.modPort, State.setPort, State.port, h]

theorem setQueue_noteJob (s : State) (p f n r) : (s.noteJob n r).setQueue p f = (s.setQueue p f).noteJob n r := by
  by_cases h : hasJobNote n s.notes <;> simp [State.noteJob, State.setQueue, h]

theorem noteJob_noteJob (s : State) (n r r') : (s.noteJob n r).noteJob n r' = s.noteJob n r := by
  by_cases h : hasJobNote n s.notes
  · simp [State.noteJob, h]
  · simp [State.noteJob, h]
    simp [hasJobNote]

theorem leaveQueue_eq (j : Job) (s : State) : leaveQueue j s = (s.modJob j.num (fun j => { j with queueEntry := none })).unqueues j := by
  unfold leaveQueue State.unqueues Job.pinnedAt
  cases hp : j.pinned <;> cases hb : j.bound <;> simp <;> rfl

theorem unqueues_modJob (s : State) (j : Job) (n f) : (s.unqueues j).modJob n f = (s.modJob n f).unqueues j := by
  unfold State.unqueues
  cases hp : j.pinned <;> cases hb : j.bound <;> simp <;> rfl
theorem port_unqueues_run (s : State) (j q) : ((s.unqueues j).port q).run = (s.port q).run := by
  unfold State.unqueues
  split
  · simp; split <;> simp
  · simp [State.setQueue, State.port]

end Sys2Proof.Machine
end

