-- ==== Sys2Proof/Laws/Commute.lean ====
section
/-! SUPPORT. Alerts, MEDIA_OUT and freeing do not look at the holding area or the panel bus: they commute with a reply or an action record; what they change of a port. -/

namespace Sys2Proof.Machine

/-- `u` with the holding area `h` and the panel bus `b`. -/
def dress (h : List Entry) (b : Pbc) (u : State) : State := { u with mlc := { u.mlc with holding := h }, pbc := b }

theorem dress_evalLamps (h b u p) : evalLamps p (dress h b u) = dress h b (evalLamps p u) := by
  have e : (dress h b u).portCfg p = u.portCfg p := rfl
  cases hl : (u.portCfg p).lampHost <;> simp only [evalLamps, e, hl, if_true, Bool.false_eq_true, if_false]
  rfl

/-- An alert transition but for the lamps. -/
def moved (e : EntryNo) (a : Alert) (l : List EntryNo) (r : Bool) (t : Nat) (s : State) : State :=
  let s := s.setAlert e a
  let s := { s with au := { s.au with announced := l, silenced := s.au.silenced && !r } }
  evalHorn (s.note 0x71 (alertEvent e a t))

theorem alertMove_some {e p} (h : portOf e = some p) (a l r t s) : alertMove e a l r t s = evalLamps p (moved e a l r t s) := by
  unfold alertMove moved; simp only [h]
theorem alertMove_none {e} (h : portOf e = none) (a l r t s) : alertMove e a l r t s = moved e a l r t s := by
  unfold alertMove moved; simp only [h]

theorem dress_moved (h b e a l r t u) : moved e a l r t (dress h b u) = dress h b (moved e a l r t u) := rfl
theorem dress_modJob (h b u n f) : (dress h b u).modJob n f = dress h b (u.modJob n f) := rfl
theorem dress_modPort (h b u n f) : (dress h b u).modPort n f = dress h b (u.modPort n f) := rfl
theorem dress_setAlert (h b u n f) : (dress h b u).setAlert n f = dress h b (u.setAlert n f) := rfl

theorem dress_alertMove (h b u e a l r t) : alertMove e a l r t (dress h b u) = dress h b (alertMove e a l r t u) := by
  cases hp : portOf e with
  | none => rw [alertMove_none hp, alertMove_none hp, dress_moved]
  | some p => rw [alertMove_some hp, alertMove_some hp, dress_moved, dress_evalLamps]

theorem dress_alertOff (h b u e) : alertOff e (dress h b u) = dress h b (alertOff e u) := by
  have e1 : ∀ e, (dress h b u).alert e = u.alert e := fun _ => rfl
  have e2 : (dress h b u).au = u.au := rfl
  unfold alertOff
  simp only [e1, e2, dress_alertMove, dress_setAlert]
  split
  · split <;> rfl
  all_goals rfl
theorem dress_alertOn (h b u e d) : alertOn e d (dress h b u) = dress h b (alertOn e d u) := by
  have e1 : ∀ e, (dress h b u).alert e = u.alert e := fun _ => rfl
  have e2 : (dress h b u).au = u.au := rfl
  have e3 : (dress h b u).clock = u.clock := rfl
  unfold alertOn
  simp only [e1, e2, e3, dress_alertMove, dress_setAlert]
  split <;> rfl

theorem dress_condOff (h b u p k) : condOff p k (dress h b u) = dress h b (condOff p k u) := by
  have e1 : ∀ e, (dress h b u).port e = u.port e := fun _ => rfl
  unfold condOff
  simp only [e1, dress_modPort, dress_alertOff]
  split <;> rfl
theorem dress_condOn (h b u p k d) : condOn p k d (dress h b u) = dress h b (condOn p k d u) := by
  have e1 : ∀ e, (dress h b u).port e = u.port e := fun _ => rfl
  unfold condOn
  simp only [e1, dress_modPort, dress_alertOn]
  split <;> rfl

theorem dress_evalMedia (h b u p) : evalMedia p (dress h b u) = dress h b (evalMedia p u) := by
  have e1 : ∀ e, (dress h b u).port e = u.port e := fun _ => rfl
  have e2 : ∀ e, (dress h b u).runJob e = u.runJob e := fun _ => rfl
  unfold evalMedia
  simp only [e1, e2, dress_condOn, dress_condOff]
  split
  · split <;> rfl
  · rfl

/-- `u` with the spool side `m`. -/
def withSmm (m : Smm) (u : State) : State := { u with smm := m }
theorem dress_withSmm (h b u m) : withSmm m (dress h b u) = dress h b (withSmm m u) := rfl
theorem dress_evalSpoolLow (h b u) : evalSpoolLow (dress h b u) = dress h b (evalSpoolLow u) := by
  have e1 : (dress h b u).spoolLowNow = u.spoolLowNow := rfl
  have e2 : (dress h b u).smm = u.smm := rfl
  have e3 : ∀ v, evalSpoolLow v = if v.spoolLowNow = v.smm.low then v else
     if v.spoolLowNow then alertOn spoolLowEntry (some v.smm.free.length) (withSmm { v.smm with low := v.spoolLowNow } v)
     else alertOff spoolLowEntry (withSmm { v.smm with low := v.spoolLowNow } v) := fun _ => rfl
  rw [e3, e3]
  simp only [e1, e2, dress_withSmm, dress_alertOn, dress_alertOff]
  split
  · rfl
  · split <;> rfl

theorem dress_freeImages (h b u n) : freeImages n (dress h b u) = dress h b (freeImages n u) := by
  have e3 : ∀ v, freeImages n v = evalSpoolLow (withSmm { v.smm with
     free := v.smm.free ++ v.smm.chainsOf n, images := v.smm.images.filter (fun x => x.job != n) } v) := fun _ => rfl
  have e2 : (dress h b u).smm = u.smm := rfl
  rw [e3, e3, e2, dress_withSmm, dress_evalSpoolLow]
theorem dress_noteJob (h b u n f) : (dress h b u).noteJob n f = dress h b (u.noteJob n f) := by
  have e1 : (dress h b u).notes = u.notes := rfl
  unfold State.noteJob
  simp only [e1]
  split <;> rfl
/-- Job `n` joins the finished list. -/
def fin (n : Nat) (u : State) : State := { u with jt := { u.jt with finished := u.jt.finished ++ [n] } }
theorem dress_fin (h b u n) : fin n (dress h b u) = dress h b (fin n u) := rfl
theorem dress_finishes (h b u n st r) : (dress h b u).finishes n st r = dress h b (u.finishes n st r) := by
  have e3 : ∀ v : State, v.finishes n st r = ((fin n (freeImages n (v.modJob n (fun j => { j with
    purpose := none, pinned := false, queueEntry := none, finished := some v.mlc.clock })))).modJob n (fun j => { j with state := st })).noteJob n r := fun _ => rfl
  have e2 : (dress h b u).mlc.clock = u.mlc.clock := rfl
  rw [e3, e3, e2, dress_modJob, dress_freeImages, dress_fin, dress_modJob, dress_noteJob]

theorem evalLamps_modJob {u : State} {p n F} (h : (u.port p).run = none) : evalLamps p (u.modJob n F) = (evalLamps p u).modJob n F := by
  have e : (u.modJob n F).portCfg p = u.portCfg p := rfl
  have e1 : (u.modJob n F).lampsNow p = u.lampsNow p := by
    have e3 : (u.modJob n F).port p = u.port p := rfl
    have e4 : (u.modJob n F).runRunning p = u.runRunning p := by simp [State.runRunning, State.runJob, e3, h]
    have e5 : (u.modJob n F).anyEntry p = u.anyEntry p := rfl
    simp only [State.lampsNow, e3, e4, e5]
  cases hl : (u.portCfg p).lampHost <;> simp only [evalLamps, e, hl, e1, if_true, Bool.false_eq_true, if_false]
  rfl

theorem condOff_none_modJob {u : State} {p k n F} (h : (u.port p).run = none) (hk : portOf (entryNo p k) = some p) : condOff p k (u.modJob n F) = (condOff p k u).modJob n F := by
  have e3 : (u.modJob n F).port p = u.port p := rfl
  unfold condOff
  simp only [e3]
  split
  · generalize hv : (u.modPort p fun x => { x with conds := x.conds.set k false }) = v
    have hr : (v.port p).run = none := by rw [← hv]; simpa using h
    rw [show (u.modJob n F).modPort p (fun x => { x with conds := x.conds.set k false }) = v.modJob n F by rw [← hv]; rfl]
    have m : ∀ a l r t, alertMove (entryNo p k) a l r t (v.modJob n F) = (alertMove (entryNo p k) a l r t v).modJob n F := by
      intro a l r t
      rw [alertMove_some hk, alertMove_some hk]
      have : moved (entryNo p k) a l r t (v.modJob n F) = (moved (entryNo p k) a l r t v).modJob n F := rfl
      rw [this]
      exact evalLamps_modJob (by simpa [State.port, moved, evalHorn, State.note, State.setAlert] using hr)
    have e1 : ∀ e, (v.modJob n F).alert e = v.alert e := fun _ => rfl
    have e2 : (v.modJob n F).au = v.au := rfl
    have e4 : ∀ a, (v.modJob n F).setAlert (entryNo p k) a = (v.setAlert (entryNo p k) a).modJob n F := fun _ => rfl
    unfold alertOff
    simp only [e1, e2, m, e4]
    split
    · split <;> rfl
    all_goals rfl
  · rfl

theorem portOf_entryNo (p : PortNo) (k : AlertKind) (hk : k ≠ .spoolLow) : portOf (entryNo p k) = some p := by
  revert p; cases k <;> first | decide | simp at hk

theorem evalMedia_none_modJob {u : State} {p n F} (h : (u.port p).run = none) : evalMedia p (u.modJob n F) = (evalMedia p u).modJob n F := by
  have e1 : (u.modJob n F).runJob p = none := by simp [State.runJob, State.port] at *; simp [h]
  have e2 : u.runJob p = none := by simp [State.runJob, h]
  unfold evalMedia
  simp only [e1, e2]
  exact condOff_none_modJob h (portOf_entryNo _ _ (by decide))

theorem port_evalLamps (s : State) (x q) : ∃ l, (evalLamps x s).port q = { s.port q with lamps := l } := by
    unfold evalLamps
    split
    · exact ⟨_, rfl⟩
    · rw [port_modPort]; split
      · exact ⟨_, rfl⟩
      · exact ⟨_, rfl⟩
theorem port_alertMove (s : State) (e a li r t q) : ∃ l, (alertMove e a li r t s).port q = { s.port q with lamps := l } := by
    have hm : (moved e a li r t s).port q = s.port q := rfl
    cases hp : portOf e with
    | none => rw [alertMove_none hp, hm]; exact ⟨_, rfl⟩
    | some p => rw [alertMove_some hp]; obtain ⟨l, hl⟩ := port_evalLamps (moved e a li r t s) p q; rw [hl, hm]; exact ⟨_, rfl⟩
theorem port_alertOff (s : State) (e q) : ∃ l, (alertOff e s).port q = { s.port q with lamps := l } := by
    have hm : ∀ a, (s.setAlert e a).port q = s.port q := fun _ => rfl
    unfold alertOff
    dsimp only
    split
    · split <;> exact port_alertMove ..
    · exact port_alertMove ..
    · rw [hm]; exact ⟨_, rfl⟩
    · rw [hm]; exact ⟨_, rfl⟩
theorem port_alertOn (s : State) (e d q) : ∃ l, (alertOn e d s).port q = { s.port q with lamps := l } := by
    have hm : ∀ a, (s.setAlert e a).port q = s.port q := fun _ => rfl
    unfold alertOn
    dsimp only
    split
    · exact port_alertMove ..
    · exact port_alertMove ..
    · rw [hm]; exact ⟨_, rfl⟩
    · rw [hm]; exact ⟨_, rfl⟩
theorem port_condOff (s : State) (p q k) : ∃ l c, (condOff p k s).port q = { s.port q with lamps := l, conds := c } := by
  unfold condOff
  split
  · obtain ⟨l, hl⟩ := port_alertOff (s.modPort p fun x => { x with conds := x.conds.set k false }) (entryNo p k) q
    rw [hl, port_modPort]
    split
    · exact ⟨_, _, rfl⟩
    · exact ⟨_, _, rfl⟩
  · exact ⟨_, _, rfl⟩
theorem port_condOn (s : State) (p q k d) : ∃ l c, (condOn p k d s).port q = { s.port q with lamps := l, conds := c } := by
  unfold condOn
  split
  · exact ⟨_, _, rfl⟩
  · obtain ⟨l, hl⟩ := port_alertOn (s.modPort p fun x => { x with conds := x.conds.set k true }) (entryNo p k) d q
    rw [hl, port_modPort]
    split
    · exact ⟨_, _, rfl⟩
    · exact ⟨_, _, rfl⟩
theorem port_evalMedia (s : State) (p q) : ∃ l c, (evalMedia p s).port q = { s.port q with lamps := l, conds := c } := by
  unfold evalMedia
  split
  · split
    · exact port_condOn ..
    · exact port_condOff ..
  · exact port_condOff ..

end Sys2Proof.Machine
end

