-- ==== Sys2Proof/Laws/JobSteps.lean ====
section
/-! SUPPORT. Job actions that bring about one task: how the cascade of the act ends. -/

namespace Sys2Proof.Machine

set_option linter.unusedSimpArgs false

/-- Composing a reply only dresses the state, and dresses two states that agree on the holding area alike. -/
theorem answer_dress {f st c} {u v : State} (h : u.mlc.holding = v.mlc.holding) (hb : u.pbc = v.pbc) :
   ∃ l b, answer f st c u = dress l b u ∧ answer f st c v = dress l b v := by
  refine ⟨_, u.pbc, rfl, ?_⟩
  rw [hb, h]; rfl
/-- Recording a panel action only dresses the state. -/
theorem recorded_dress {a n c arg r} {u v : State} (h : u.mlc.holding = v.mlc.holding) (hb : u.pbc = v.pbc) :
   ∃ l b, u.recorded a n c arg r = dress l b u ∧ v.recorded a n c arg r = dress l b v := by
  refine ⟨u.mlc.holding, (u.recorded a n c arg r).pbc, rfl, ?_⟩
  rw [h]; simp [State.recorded, State.setPanel, State.panel, dress, hb]

/-- A task that brings about at most one idle task, then a settle. -/
theorem cascade_two {k : Task} {X Y : State} {pre : List Task} (hk : runTask k X = (Y, pre)) (hl : pre.length ≤ 1)
  (hp : ∀ t ∈ pre, runTask t Y = (Y, [])) : cascade [k, .settle] X = settle Y := by
  have h3 := Task.weight_pos k
  obtain ⟨m, hm⟩ : ∃ m, cascadeFuel [k, .settle] X = m + 1 + 1 + 1 := by
    refine ⟨cascadeFuel [k, .settle] X - 3, ?_⟩
    have : cascadeFuel [k, .settle] X ≥ 3 := by
      have h4 : Task.weight .settle = 1 := rfl
      have h5 : ∀ b c, Task.weight (.note b c) = 1 := fun _ _ => rfl
      simp only [cascadeFuel, List.map_cons, List.map_nil, List.sum_cons, List.sum_nil, h4, h5]; omega
    omega
  rw [cascade, hm]
  match pre, hl with
  | [], _ => rw [runTasks, hk]; simp [runTasks, runTask]
  | [q], _ => have := hp q (by simp); rw [runTasks, hk]; simp only [List.cons_append, List.nil_append]; rw [runTasks, this]; cases m <;> simp [runTasks, runTask]

/-- The same with a notice behind it. -/
theorem cascade_two_note {k : Task} {X Y : State} {pre : List Task} {b c} (hk : runTask k X = (Y, pre)) (hl : pre.length ≤ 1)
  (hp : ∀ t ∈ pre, runTask t Y = (Y, [])) : cascade [k, .settle, .note b c] X = (settle Y).note b c := by
  have h3 := Task.weight_pos k
  obtain ⟨m, hm⟩ : ∃ m, cascadeFuel [k, .settle, .note b c] X = m + 1 + 1 + 1 + 1 := by
    refine ⟨cascadeFuel [k, .settle, .note b c] X - 4, ?_⟩
    have : cascadeFuel [k, .settle, .note b c] X ≥ 4 := by
      have h4 : Task.weight .settle = 1 := rfl
      have h5 : ∀ b c, Task.weight (.note b c) = 1 := fun _ _ => rfl
      simp only [cascadeFuel, List.map_cons, List.map_nil, List.sum_cons, List.sum_nil, h4, h5]; omega
    omega
  rw [cascade, hm]
  match pre, hl with
  | [], _ => rw [runTasks, hk]; simp [runTasks, runTask]
  | [q], _ => have := hp q (by simp); rw [runTasks, hk]; simp only [List.cons_append, List.nil_append]; rw [runTasks, this]; cases m <;> simp [runTasks, runTask]

/-- A dressed state differs in its dress alone. -/
theorem deco_dress (l b u) : Deco u (dress l b u) := by simp [Deco, dress]

/-- A job action whose one task ends without more, asked by the host or by a panel. -/
theorem jobAction_step (v w job s) (f x : State → State) (k : Task) (pre : List Task)
    (h : ∀ t, Sees s t → doVerb v w job.toNat t = .ok { st := x t, tasks := [k, .settle] })
    (hm : ∀ t, Sees s t → (x t).mlc.holding = (f t).mlc.holding ∧ (x t).pbc = (f t).pbc)
    (hk : ∀ t l b, Sees s t → runTask k (dress l b (x t)) = (dress l b (f t), pre))
    (hl : pre.length ≤ 1)
    (hf : ∀ t u, Sees s t → Deco (f t) u → ∀ k ∈ pre, runTask k u = (u, [])) : JobAction v w job s settle f := by
  cases w
  · intro tag ht hs
    rw [Ends, verb_host_exec, hostRequest_ok hs (by simp [halfBytes, be16, maxPayload]) (verb_check v tag job ht) (h _ (sees_taking s))]
    obtain ⟨l, b, e1, e2⟩ := answer_dress (f := jobFrame v.kind tag job) (st := .ok) (c := []) (hm _ (sees_taking s)).1 (hm _ (sees_taking s)).2
    have := cascade_two (hk _ l b (sees_taking s)) hl (hf _ _ (sees_taking s) (deco_dress l b _))
    simp only [closeAct, jobFrame, BitVec.ofNat_toNat, BitVec.setWidth_eq] at *
    rw [e1, e2, this]
  · intro a num ha
    rw [PanelDoes, Ends, verb_panel_exec, onAnswer_ok ha (by cases v <;> decide) (by rw [verb_action v a job num s ha]; exact h _ (sees_heard s a))]
    obtain ⟨l, b, e1, e2⟩ := recorded_dress (a := a) (n := num) (c := v.code) (arg := job.toNat) (r := .ok) (hm _ (sees_heard s a)).1 (hm _ (sees_heard s a)).2
    have := cascade_two_note (b := 0x74) (c := panelEvent a 2 v.code.toNat job.toNat Status.ok.code) (hk _ l b (sees_heard s a)) hl (hf _ _ (sees_heard s a) (deco_dress l b _))
    simp only [closeAct, List.cons_append, List.nil_append] at *
    rw [e1, e2, this, panelNote_eq]

/-- The run port of a job is the same in a state that sees the same ports. -/
theorem Sees.run {s t : State} (h : Sees s t) (n : Nat) : t.runPort n = s.runPort n := runPort_congr fun q => by rw [h.port]

/-- Usability reads six fields of a port (R92). -/
theorem usable_modPort {x y : Port} (h : x.link = y.link) (h1 : x.ready = y.ready) (h2 : x.jammed = y.jammed) (h3 : x.pauseHost = y.pauseHost) (h4 : x.pausePanel = y.pausePanel) (h5 : x.forceOff = y.forceOff) : x.usable = y.usable := by
  simp [Port.usable, *]


end Sys2Proof.Machine
end

