-- ==== Sys2Proof/Laws/Spool.lean ====
section
/-! SUPPORT. Spool memory: a read after a write, and the canonical form, which every operation keeps. -/

namespace Sys2Proof.Machine

/-- The canonical form from a higher address on is one from a lower address on. -/
theorem Memory.wfFrom_mono {m : List Host.Cell} {lo hi : Nat} (h : lo ≤ hi) (hm : Memory.wfFrom hi m = true) :
    Memory.wfFrom lo m = true := by
  cases m with
  | nil => rfl
  | cons c cs =>
    simp only [Memory.wfFrom, Bool.and_eq_true, decide_eq_true_eq] at *
    exact ⟨⟨by omega, hm.1.2⟩, hm.2⟩

/-- A write keeps the canonical form. -/
theorem memWrite_wfFrom {m : List Host.Cell} {lo a : Nat} {v : Byte} (h : lo ≤ a) (hm : Memory.wfFrom lo m = true) :
    Memory.wfFrom lo (memWrite m a v) = true := by
  induction m generalizing lo with
  | nil => unfold memWrite; split <;> simp_all [Memory.wfFrom]
  | cons c cs ih =>
    simp only [Memory.wfFrom, Bool.and_eq_true, decide_eq_true_eq, bne_iff_ne, ne_eq] at hm
    obtain ⟨⟨h1, h2⟩, h3⟩ := hm
    unfold memWrite
    split
    · split
      · simp [Memory.wfFrom, h1, h2, h3]
      · next h4 h5 => simp [Memory.wfFrom, h, h5, h2, h3]; omega
    · split
      · next h4 h5 =>
        split
        · exact Memory.wfFrom_mono (by omega) h3
        · next h6 => simp [Memory.wfFrom, h6, h5, h1, h3]
      · next h4 h5 =>
        have := ih (lo := c.1 + 1) (by omega) h3
        simp [Memory.wfFrom, h1, h2, this]

/-- A write keeps the canonical form of spool memory. -/
theorem memWrite_wf {m : List Host.Cell} {a : Nat} {v : Byte} (hm : Memory.wf m = true) :
    Memory.wf (memWrite m a v) = true :=
  memWrite_wfFrom (Nat.zero_le a) hm

/-- Storing bytes keeps the canonical form of spool memory. -/
theorem storeBytes_wf {chain : List Nat} {bytes : List Byte} {n : Nat} {m : List Host.Cell}
    (hm : Memory.wf m = true) : Memory.wf (storeBytes chain n bytes m) = true := by
  induction bytes generalizing n m with
  | nil => exact hm
  | cons b bs ih => exact ih (memWrite_wf hm)

/-- Spool memory after reset is in canonical form. -/
theorem reset_spool_wf : Memory.wf State.reset.smm.spool = true := rfl

/-- No address below the canonical form's first is listed: it reads as the default. -/
theorem memRead_below {m : List Host.Cell} {lo a : Nat} (h : a < lo) (hm : Memory.wfFrom lo m = true) :
    memRead m a = spoolDefault := by
  have : m.find? (fun c => c.1 == a) = none := by
    induction m generalizing lo with
    | nil => rfl
    | cons c cs ih =>
      simp only [Memory.wfFrom, Bool.and_eq_true, decide_eq_true_eq] at hm
      rw [List.find?_cons_of_neg (by simp; omega)]
      exact ih (lo := c.1 + 1) (by omega) hm.2
  simp [memRead, this]

/-- A read of the head's address, or of an address behind it. -/
theorem memRead_cons (c : Host.Cell) (cs : List Host.Cell) (a : Nat) :
    memRead (c :: cs) a = if c.1 = a then c.2 else memRead cs a := by
  by_cases h : c.1 = a <;> simp [memRead, h]

/-- A read after a write: the value written at its address, what was there elsewhere. -/
theorem memRead_memWrite {m : List Host.Cell} {lo : Nat} (hm : Memory.wfFrom lo m = true) (a b : Nat) (v : Byte) :
    memRead (memWrite m a v) b = if b = a then v else memRead m b := by
  induction m generalizing lo with
  | nil =>
    unfold memWrite
    split
    · next h => subst h; simp [memRead]
    · simp only [memRead_cons, eq_comm (a := a)]
  | cons c cs ih =>
    have hc := hm
    simp only [Memory.wfFrom, Bool.and_eq_true, decide_eq_true_eq] at hm
    unfold memWrite
    split
    · next h =>
      split
      · next hv =>
        split
        · next hb => subst hb; rw [hv]; exact memRead_below (lo := c.1) h (by simp [Memory.wfFrom, hm])
        · rfl
      · rw [memRead_cons]; simp only [eq_comm (a := a)]
    · split
      · next h1 h =>
        split
        · next hv =>
          split
          · next hb => subst hb; rw [hv]; exact memRead_below (lo := c.1 + 1) (by omega) hm.2
          · next hb => rw [memRead_cons]; simp [← h, Ne.symm hb]
        · simp only [memRead_cons, eq_comm (a := a)]
          split
          · rfl
          · next hb => simp [← h, Ne.symm hb]
      · next h1 h =>
        rw [memRead_cons, memRead_cons, ih hm.2]
        split
        · next hb => simp; intro h2; omega
        · rfl

/-- Storing bytes leaves every other address as it was. -/
theorem memRead_storeBytes_other {chain : List Nat} {bytes : List Byte} {n a : Nat} {m : List Host.Cell}
    (hm : Memory.wf m = true) (h : ∀ k, n ≤ k → k < n + bytes.length → byteAddr chain k ≠ a) :
    memRead (storeBytes chain n bytes m) a = memRead m a := by
  induction bytes generalizing n m with
  | nil => rfl
  | cons b bs ih =>
    have h0 := h n (Nat.le_refl n) (by simp)
    rw [storeBytes, ih (memWrite_wf hm) (fun k h1 h2 => h k (by omega) (by simp; omega)),
      memRead_memWrite hm, if_neg (Ne.symm h0)]

/-- A byte just stored reads back, where the addresses of the bytes stored are distinct. -/
theorem memRead_storeBytes_at {chain : List Nat} {bytes : List Byte} {n k : Nat} {m : List Host.Cell}
    (hm : Memory.wf m = true) (hk : k < bytes.length)
    (h : ∀ i j, n ≤ i → i < j → j < n + bytes.length → byteAddr chain i ≠ byteAddr chain j) :
    memRead (storeBytes chain n bytes m) (byteAddr chain (n + k)) = bytes[k] := by
  induction bytes generalizing n m k with
  | nil => simp at hk
  | cons b bs ih =>
    rw [storeBytes]
    cases k with
    | zero =>
      rw [memRead_storeBytes_other (memWrite_wf hm), memRead_memWrite hm]
      · simp
      · intro k h1 h2 h3
        exact h n k (by omega) (by omega) (by simp; omega) h3.symm
    | succ k =>
      have := ih (n := n + 1) (m := memWrite m (byteAddr chain n) b) (k := k) (memWrite_wf hm) (by simpa using hk)
        (fun i j h1 h2 h3 => h i j (by omega) h2 (by simp; omega))
      simpa [Nat.add_assoc, Nat.add_comm 1 k] using this

end Sys2Proof.Machine
end

