-- ==== Sys2Proof/Tests/Slice0.lean ====
section
/-! SUPPORT. Tests: every expected value is the spec's own (a rule, a table or a worked sequence), named beside it. A theorem named after a statement shows a state and operands that meet its hypotheses. -/

namespace Sys2Proof.Tests

open Sys2Proof Sys2Proof.Machine

-- One thread for the tests: each waits for the kernel, and many that wait at once are many stacks.
set_option Elab.async false

/-! ### Small states -/

/-- The state after a command that answers next. -/
def after (i : Instr) (s : State) : State :=
  match exec i s with
  | .next t => t
  | _ => s

/-- A part that is quick to evaluate: 64 free blocks, no rush reserve, no low-spool threshold, every account OPEN. -/
def base : State :=
  { smm := { free := List.range 64 }
    cfg := { Settings.factory with
      rushReserve := 0, lowSpool := 0, accounts := Vector.replicate 128 { isOpen := true } } }

/-- The reply that command `i` puts last in the holding area. -/
def replyOf (i : Instr) (s : State) : Option (List Byte) :=
  ((after i s).mlc.holding.getLast?.bind (fun e => e.reply)).map (fun f => f.payload)

/-- The same part with its transmitter busy, so that replies and notices stay where they join. -/
def busy : State := { base with mlc := { tx := .sending ⟨0x71, 0, [0]⟩ false, clock := 100 } }

/-- Job 1: 2 copies, collated, early start, simplex mono. -/
def job1 : Job :=
  { record := 0, num := 1, account := 0, dest := 0, rush := false, priority := 3, copies := 2, collate := true
    earlyStart := true, duplex := false, colour := .mono, media := 0, size := 0 }

/-- A printer that serves everything, UP and ready. -/
def upPort : Port :=
  { link := .up, ready := true, caps := some { colour := .color, duplex := true, media := 255, size := 255 }
    maxWindow := some 4, effWindow := 4 }

/-- The part with the one job `j`. -/
def withJob (j : Job) : State := { busy with jt := { jobs := [j], lastNum := 1 } }

/-- The image of job 1 with this index, complete and simplex. -/
def image (index : Nat) : Image :=
  { record := index, job := 1, index := index, chain := [100 + index], length := 3, complete := true, sides := some 1 }

/-- An in-flight record of job 1, with the tag of its position. -/
def flight (pos charge : Nat) (stage : FlightStage) : Flight :=
  { job := 1, pos := pos, index := pos % 3, copy := pos / 3, tag := BitVec.ofNat 8 pos, sides := 1, charge := charge
    stage := stage }

/-- Job `j` in the run slot of port 3, whose printer is as `x` says. -/
def runningAt (j : Job) (x : Port) : State := (withJob j).setPort 3 { x with run := some 1 }

/-- Panel 7, with FULL rights, is PRESENT and its reply is awaited. -/
def panelAwaited (s : State) : State :=
  let t := (s.setPanelCfg 7 { fitted := true, rights := .full }).setPanel 7 { present := true }
  { t with pbc := { t.pbc with awaiting := some { panel := 7, poll := ⟨0x60, 7, []⟩ } } }

/-! ### Well-formedness: a term that each check refuses -/

theorem test_wf_tagZero : (Instr.status 0).check = some .tagZero := by decide

theorem test_wf_dataLength : (Instr.sheetData 1 1 []).check = some .dataLength := by decide

theorem test_wf_partWide : (Instr.portQuery 1 16 0).check = some .partWide := by decide

theorem test_wf_pressField : (Instr.jam 0 16 0).check = some .pressField := by decide

theorem test_wf_passesChecks : (Instr.unknownKind 0x01 1 []).check = some .passesChecks := by decide

theorem test_wf_tooLong : (Instr.unknownKind 0x3F 1 (List.replicate 1041 0)).check = some .tooLong := by decide +kernel

theorem test_wf_panelAddress : (Instr.panelHold 8 1 1).check = some .panelAddress := by decide

theorem test_wf_goodCode : (Instr.panelActionBadCode 0 9 1 1).check = some .goodCode := by decide

/-! ### The check of a frame (R1) -/

/-- The published check value of this cyclic redundancy check (0x1021, initial value 0xFFFF) for "123456789". -/
theorem test_crc : crc16 [0x31, 0x32, 0x33, 0x34, 0x35, 0x36, 0x37, 0x38, 0x39] = 0x29B1 := by decide +kernel

/-! ### Worked charges (section 8.5) -/

/-- The sheet of 8.5.1: B = 120, F = 23, D = 12, thresholds 1,000 10,000 50,000, discounts 0 5 10 20. -/
def sheet851 : Tariff :=
  { base := Vector.replicate 16 120, size := Vector.replicate 8 23, second := 12, t1 := 1000, t2 := 10000, t3 := 50000
    discount := #v[0, 5, 10, 20] }

theorem test_charge_851 : sheet851.charge {} 10437 .color 2 3 2 = 272 := by decide

theorem test_charge_852 :
    ({ base := Vector.replicate 16 1, size := Vector.replicate 8 8 } : Tariff).charge {} 0 .mono 0 0 1 = 1
      ∧ ({ base := Vector.replicate 16 1, size := Vector.replicate 8 7 } : Tariff).charge {} 0 .mono 0 0 1 = 0 := by
  decide

theorem test_charge_853 :
    ({ base := Vector.replicate 16 65535, size := Vector.replicate 8 255 } : Tariff).charge {} 0 .mono 0 0 2
      = 2088928 := by decide

theorem test_charge_854 :
    sheet851.charge { exempt := true } 10437 .color 2 3 2 = 0 ∧ sheet851.charge { fixed := true } 10437 .color 2 3 2 = 302
      ∧ sheet851.charge {} 9999 .color 2 3 2 = 287 := by decide

/-! ### Commands: the spec's own tables and worked sequences -/

/-- R15: the OK reply of IDENTIFY. -/
theorem test_identify : replyOf (.identify 5) busy = some [0, 0x06, 0x68, 0x41, 0, 16, 8] := by decide +kernel

/-- R14: STATUS clears RESET_SEEN. -/
theorem test_status : (after (.status 5) base).mlc.resetSeen = false := by decide +kernel

/-- Table 1-11, "Tag 26 arrives, area full" and "Tag 23 fails its check": a discard is counted. -/
theorem test_discard : (after (.hostFrameReceived [0xA6, 0, 0, 1, 7, 0, 0]) { busy with mlc := { busy.mlc with
    discarded := 7 } }).mlc.discarded = 8 := by decide +kernel

/-- R11: at 4,294,967,295 the clock wraps to 0 and CLOCK_UNSET is set. -/
theorem test_clock_wraps : (after .shopClockTick { busy with mlc := { busy.mlc with
    clock := 4294967295, clockUnset := false } }).mlc.clock = 0 := by decide +kernel

/-- R32: 65,535 is followed by 1. -/
theorem test_job_number_wraps :
    replyOf (.jobOpen 1 0 0 0 0 1 0 0 0 0) { busy with jt := { lastNum := 65535 } } = some [0, 0, 1] := by
  decide +kernel

/-- Table 2-4, step 3: the chain of an image of 32,768 bytes is full, and 500 more take the head of the free list. -/
theorem test_sheet_data_takes_block :
    (after (.sheetData 1 1 (List.replicate 5 7)) { withJob job1 with smm := {
      free := [18, 40], images := [{ record := 0, job := 1, index := 0, chain := [17], length := 32768 }]
      } }).smm.images.map (fun i => (i.chain, i.length)) = [([17, 18], 32773)] := by decide +kernel

/-- Table 3-6, JOB_CLOSE: total 3 x 3 = 9, and position 3 goes out as image 0 of copy 1. -/
theorem test_job_close_total :
    ((after (.jobClose 2 1) ({ runningAt { job1 with
        copies := 3, complete := 3, cursor := 3, delivered := 1, inFlight := 2, state := .starved } { upPort with
        nextTag := 3, inFlight := [flight 1 0 .taken, flight 2 0 .taken] } with
        smm := { images := [image 0, image 1, image 2] } })).port 3).inFlight.map
      (fun f => (f.pos, f.index, f.copy, f.tag)) = [(1, 1, 0, 1), (2, 2, 0, 2), (3, 0, 1, 3)] := by decide +kernel

/-- Table 3-8: the rewind of job 377 at a jam. -/
theorem test_jam_rewinds :
    ((after (.jam 3 2 1) (runningAt { job1 with
        complete := 3, dataClosed := true, total := some 6, cursor := 5, delivered := 3, inFlight := 2, state := .running
        pinned := true, bound := some 3 } { upPort with inFlight := [flight 3 0 .taken, flight 4 0 .sending] })).job?
      1).map (fun j => (j.state, j.cursor, j.delivered, j.inFlight, j.spoiled)) = some (.running, 3, 3, 0, 1) := by
  decide +kernel

/-- Table 9-2, OUT 41: 9,500 charged, 450 reserved, and the dispatch at 45 is a credit stop. -/
theorem test_credit_stop :
    let s := runningAt { job1 with
      copies := 1, complete := 60, dataClosed := true, total := some 60, cursor := 45, delivered := 41, inFlight := 4
      state := .running, pinned := true, bound := some 3 } { upPort with
      inFlight := [flight 41 150 .taken, flight 42 150 .taken, flight 43 150 .taken, flight 44 150 .taken] }
    let s := { s with smm := { images := [image 45] }, cfg := { s.cfg with active := { base := Vector.replicate 16 150 } } }
    let s := (s.setAccount 0 { limited := true, fixed := true, limit := 10000, periodCharged := 9350 }).setReservation 0
      { mills := 600, impressions := 4 }
    let t := after (.out 3 41) s
    (t.account 0).periodCharged = 9500 ∧ (t.reservation 0).mills = 450
      ∧ (t.job? 1).map (fun j => (j.state, j.cursor, j.delivered, j.holds.credit)) = some (.draining, 45, 42, true) := by
  decide +kernel

/-- Table 6-5, step 2: the effective window is the lesser of 4 and 2. -/
theorem test_hello_window :
    ((after (.hello 14 0 0 1 1 2) (busy.setPort 14 { link := .waking, wakeTimer := some 90 })).port 14).effWindow = 2 := by
  decide +kernel

/-- Table 6-5, step 13: the last OUT under a pending force-off takes the link DOWN. -/
theorem test_last_out_forces_off :
    ((after (.out 3 2) (runningAt { job1 with
        copies := 1, complete := 4, dataClosed := true, total := some 4, cursor := 3, delivered := 2, inFlight := 1
        state := .running } { upPort with
        wakeMode := .forceOff, forceOff := true, inFlight := [flight 2 0 .taken] })).port 3).link = .down := by
  decide +kernel

/-- Table 7-3: the watchdog's expiry counts the two TAKEN sheets doubtful and begins attempt 1. -/
theorem test_stall :
    let t := after (.progressWatchdogExpiry 3) (runningAt { job1 with
      complete := 300, dataClosed := true, total := some 600, cursor := 203, delivered := 200, inFlight := 3
      state := .running } { upPort with
      watchdog := some 30, meters := { doubtful := 58 }
      inFlight := [flight 200 35 .taken, flight 201 35 .taken, flight 202 35 .sent] })
    (t.port 3).meters.doubtful = 60 ∧ (t.port 3).attempt = some 1 ∧ (t.port 3).link = .recovering := by decide +kernel

/-- Table 10-3, time 90: the repeated report finds entry 21 ACKED, behind entry 27, and the silence ends. -/
theorem test_repeated_jam :
    let s := busy.setPort 3 { upPort with jammed := true, conds := { jam := true, door := true } }
    let s := s.setAlert 21 { on := true, state := .acked, raiseCount := 1, detail := some 6 }
    let s := s.setAlert 27 { on := true, state := .raised, raiseCount := 1 }
    let t := after (.jam 3 9 0) { s with au := { s.au with announced := [27], silenced := true } }
    t.au.announced = [27, 21] ∧ t.au.silenced = false ∧ (t.alert 21).raiseCount = 2 := by
  decide +kernel

/-- Table 10-3: entry 21, RAISED at time 90, reaches its own 60 s at time 150, and no unit of time earlier. -/
theorem test_escalation_time :
    let s := fun now => { busy.setAlert 21 { on := true, state := .raised, raisedAt := 90 * Config.second } with
      base := { now := now } }
    (s (150 * Config.second)).hornNow = true ∧ (s (150 * Config.second - 1)).hornNow = false := by
  have h : 0 < Config.second := Nat.succ_pos _
  constructor
  · rw [hornNow_iff]
    refine ⟨by decide, rfl, 21, by decide, ?_⟩
    simp [Alert.escalatesAt, State.alert, State.setAlert]
    exact (by omega : 90 * Config.second + 60 * Config.second ≤ 150 * Config.second)
  · rw [← Bool.not_eq_true, hornNow_iff]
    rintro ⟨-, -, e, he, ht⟩
    have hr : e = 21 := by
      by_contra hne
      simp [State.alert, State.setAlert, Fin.ext_iff] at he hne
      rw [Vector.getElem_set_ne _ _ (by omega)] at he
      simp [busy, base] at he
    subst hr
    simp [Alert.escalatesAt, State.alert, State.setAlert] at ht
    have : 90 * Config.second + 60 * Config.second ≤ 150 * Config.second - 1 := ht
    omega

/-- Table 8-4, "Clock reaches 36,000": the cutover is made and the schedule is absent. -/
theorem test_scheduled_cutover :
    let s := { busy with mlc := { busy.mlc with clock := 35999 }, cfg := { busy.cfg with
      schedule := some { time := 36000, close := false }, staged := { base := Vector.replicate 16 44 } } }
    let t := after .shopClockTick s
    t.cfg.active.base[0] = 44 ∧ t.cfg.schedule = none := by decide +kernel

/-- Table 11-3, exchange 1: a CANCEL above FLOOR rights is recorded REFUSED_RIGHTS, code 0x40. -/
theorem test_panel_rights :
    let s := panelAwaited busy
    ((after (.panelCancel 7 18 1402) (s.setPanelCfg 7 { fitted := true, rights := .floor })).panel 7).lastAction
      = some { number := 18, code := 9, argument := 1402, result := 0x40 } := by decide +kernel

/-- Table 12-3: ACCOUNT_SET while a save is in progress is answered SAVING (code 0x12). -/
theorem test_saving : replyOf (.accountSet 2 12 1 0) { busy with ss := { saving := some {} } } = some [0x12] := by
  decide +kernel

/-- R57: the mask that ROUTE_MASK holds is consumed by the next request (Table 4-5, order B). -/
theorem test_mask_consumed :
    (after (.status 2) { busy with dt := { routeMask := some {
      members := true, label := false, enabled := false, insert := false } } }).dt.routeMask = none := by decide +kernel

/-! ### Witnesses: states and operands that meet the hypotheses of each statement, clause by clause -/

/-- The part with four requests in its holding area. -/
def heldFour : State := { base with mlc := { holding := List.replicate 4 { request := ⟨1, 1, []⟩, stage := .admitted } } }

/-- The part with three. -/
def heldThree : State := { base with mlc := { holding := List.replicate 3 { request := ⟨1, 1, []⟩, stage := .admitted } } }

/-- The part with a RESTART taken. -/
def restarting (k : RestartKind) : State :=
  { base with mlc := { restart := some k, tx := .sending ⟨0x85, 7, [0]⟩ true } }

/-- The part with a save in progress. -/
def saving : State := { base with ss := { saving := some {} } }

/-- Job 1 in this state, its data closed, 4 of 6 sheets delivered. -/
def jobIn (st : JobState) : Job :=
  { job1 with state := st, dataClosed := true, complete := 3, total := some 6, cursor := 4, delivered := 4 }

/-- Job 1 in this state, in no slot. -/
def slotless (st : JobState) : State := withJob (jobIn st)

/-- Job 1 in the run slot of port 3. -/
def inRun (st : JobState) : State := runningAt (jobIn st) upPort

/-- Job 1 in the suspended slot of port 3. -/
def inSusp (why : SuspReason) : State :=
  (withJob (jobIn .suspended)).setPort 3 { upPort with susp := some { job := 1, reason := why } }

/-- Job 1 in the incoming slot of port 3. -/
def inInc : State := (withJob (jobIn .suspended)).setPort 3 { upPort with inc := some 1 }

/-- A panel action of any code is one panel 7 may ask and has not just asked. -/
theorem panelAwaited_awaits (s : State) (h : s = slotless .held ∨ s = inRun .running) (level : Rights)
    (number code : Byte) : (panelAwaited s).awaits 7 level number code := by
  rcases h with rfl | rfl <;> exact ⟨⟨_, rfl⟩, rfl, by cases level <;> decide, fun r hr => by cases hr⟩

theorem witness_StepRunsFront :
    ({ base with pending := [.poll, .status 1] } : State).pending = .poll :: [.status 1] ∧ base.pending = [] := by decide

theorem witness_FrameLayout :
    (⟨1, 2, List.replicate 1040 0xA6⟩ : Frame).payload.length ≤ 1040 ∧ (⟨1, 2, []⟩ : Frame).payload.length ≤ 1040 := by
  decide +kernel

theorem witness_ReceiverFindsFrames :
    (0xA6 : Byte) ∉ [0x00, 0xA5, 0xFF] ∧ (65535 : Nat) < 65536 ∧ 65535 ≠ (crc16 (frameBody ⟨1, 2, []⟩)).toNat
      ∧ 1040 < (4 : Byte).toNat * 256 + (17 : Byte).toNat ∧ base.mlc.rx = .hunting
      ∧ rxRun .hunting [0xA6, 4, 17] = (.hunting, [.discard]) := by decide +kernel

theorem witness_HostFrameIsRequest :
    let i := Instr.unknownKind 0x3F 1 (List.replicate 1040 0)
    i.wf = true ∧ requestOf i = some ⟨0x3F, 1, List.replicate 1040 0⟩ ∧ base.mlc.rx = .hunting
      ∧ (Instr.sheetData 255 65535 (List.replicate 1024 0xA6)).wf = true
      ∧ (requestOf (Instr.sheetData 255 65535 (List.replicate 1024 0xA6))).isSome = true := by decide +kernel

theorem witness_PressFrameIsReport :
    (⟨0x41, 0, [1, 1, 255, 255, 32]⟩ : Frame).payload.length ≤ 1040 ∧ (base.port 15).rx = .hunting
      ∧ reportOf 15 ⟨0x41, 0, [1, 1, 255, 255, 32]⟩ = some (.hello 15 1 1 255 255 32)
      ∧ reportOf 15 ⟨0x44, 0, [15, 9]⟩ = some (.jam 15 15 9) ∧ reportOf 15 ⟨0x44, 0, [16, 9]⟩ = none
      ∧ (0xA6 : Byte) ∉ [0x00, 0xFF] ∧ 0 ≠ (crc16 (frameBody ⟨0x44, 0, [15, 9]⟩)).toNat
      ∧ 1040 < (4 : Byte).toNat * 256 + (17 : Byte).toNat := by decide +kernel

theorem witness_AdmissionOrDiscard :
    heldThree.mlc.rx = .hunting ∧ heldThree.mlc.holding.length < 4 ∧ heldThree.mlc.restart = none
      ∧ (restarting .warm).mlc.holding.length < 4 ∧ (restarting .warm).mlc.restart ≠ none
      ∧ 4 ≤ heldFour.mlc.holding.length := by decide

theorem witness_RequestsAnswered :
    heldThree.takes ∧ (Instr.jobHold 255 65535).wf = true ∧ (requestOf (Instr.jobHold 255 65535)).isSome = true
      ∧ kindLengths 0x3F = none ∧ kindLengths 0x01 = some (0, 0) ∧ 0 < (List.replicate 1040 (0 : Byte)).length
      ∧ kindLengths 0x0E = some (2, 2) ∧ ([0] : List Byte).length < 2 := by decide +kernel

theorem witness_SavingRefusesSettings :
    requestOf (Instr.panelSet 1 8 4 2) = some ⟨0x38, 1, [8, 4, 2]⟩ ∧ saving.takes ∧ saving.ss.saving ≠ none := by decide

theorem witness_TransmitterTurns :
    let notice : Notice := ⟨0x71, [1]⟩
    let ready : Entry := { request := ⟨1, 1, []⟩, stage := .replyReady, reply := some ⟨0x81, 1, [0]⟩ }
    busy.mlc.tx = .sending ⟨0x71, 0, [0]⟩ false ∧ busy.mlc.restart = none
      ∧ ({ tx := .idle, notices := [notice], lastReply := true, holding := [ready] } : Mlc).lastReply = true
      ∧ (∀ e ∈ ([] : List Entry).head?, e.stage ≠ .replyReady) ∧ ready.stage = .replyReady
      ∧ base.mlc.tx = .idle ∧ base.mlc.notices = [] ∧ (∀ e ∈ base.mlc.holding.head?, e.stage ≠ .replyReady)
      ∧ ({ tx := .sending ⟨0x81, 1, [0]⟩ true, restart := some .warm } : Mlc).restart ≠ none
      ∧ (⟨0x81, 1, [0]⟩ : Frame).kind ≠ 0x85 ∧ (⟨0x85, 1, [0x12]⟩ : Frame).payload ≠ [0] := by decide

theorem witness_ActNotices :
    (List.replicate 29 (⟨0x71, [1]⟩ : Notice)).length + [Note.port 3, .job 1 .host, .notice ⟨0x75, [0]⟩].length ≤ 32 := by
  decide

theorem witness_Restarts :
    heldThree.takes ∧ heldThree.ss.saving = none ∧ (restarting .cold).mlc.tx = .sending ⟨0x85, 7, [0]⟩ true
      ∧ (restarting .cold).mlc.restart = some .cold ∧ loadImage (restarting .cold).ss.stored = (Settings.factory, true)
      ∧ Settings.factory.lowSpool ≤ blockCount (restarting .cold).smm.sizeClass
      ∧ (restarting .warm).mlc.restart = some .warm := by decide +kernel

theorem witness_PowerOnLoads :
    Settings.factory.valid = true ∧ ({ rushReserve := 4097 } : Settings).valid = false
      ∧ loadImage none = (Settings.factory, true) ∧ Settings.factory.lowSpool ≤ blockCount 3 := by decide +kernel

/-- An image whose stored check is not the one computed over its contents, whatever that one is. -/
theorem witness_PowerOnLoads_check (g : Settings) :
    let m : SettingsImage := { contents := g, check := Config.imageCheck g + 1 }
    m.check ≠ Config.imageCheck m.contents := by
  intro m h
  have h : Config.imageCheck g + 1 = Config.imageCheck g := h
  simp at h

theorem witness_SaveAndItsEnd : base.takes ∧ base.ss.saving = none ∧ saving.ss.saving = some {} := by decide +kernel

theorem witness_LinkRequests : (255 : Byte) ≠ 0 ∧ heldThree.takes := by decide

theorem witness_TickCounts :
    let s : State := { base with cfg := { base.cfg with schedule := some { time := 2, close := true } } }
    ∀ x ∈ s.cfg.schedule, s.nextClock < x.time := by decide

/-- One unit of the time base before entry 21 reaches the escalation time, and one unit before the next second. -/
theorem witness_time :
    let s : State := { busy.setAlert 21 { on := true, state := .raised } with
      base := { now := 60 * Config.second - 1, secondAt := 59 * Config.second } }
    (s.alert 21).state = .raised ∧ s.cfg.escalation ≠ 0 ∧ s.base.now ≤ s.base.secondAt + Config.second
      ∧ s.base.now < (s.alert 21).raisedAt + s.cfg.escalation * Config.second := by
  have h : 0 < Config.second := Nat.succ_pos _
  refine ⟨by decide, by decide, ?_, ?_⟩
  · show 60 * Config.second - 1 ≤ 59 * Config.second + Config.second
    omega
  · show 60 * Config.second - 1 < 0 + 60 * Config.second
    omega

theorem witness_JobNumberIsNext :
    let s : State := { (withJob job1) with jt := { jobs := [job1], lastNum := 65535 } }
    s.jt.jobs.length ≤ 255 ∧ s.jt.lastNum ≤ 65535 := by decide

/-- A full job table: job number k + 1 in record k, the one in record 7 DONE. -/
def fullTable (finished : List Nat) : State :=
  { base with jt := { finished := finished, jobs := (List.range 256).map (fun k => { job1 with
      record := k, num := k + 1, state := if k = 7 then .done else .held }) } }

theorem witness_JobOpenCreates :
    base.takes ∧ (base.account 127).isOpen = true ∧ ((Settings.factory.accounts[127]).isOpen = false)
      ∧ (base.dest 15).enabled = true ∧ (base.dest 16).enabled = false ∧ (1000 : Half).toNat = 1000
      ∧ (∀ j ∈ (withJob job1).jt.jobs, j.record ≠ 1) ∧ (∀ k < 1, ∃ j ∈ (withJob job1).jt.jobs, j.record = k) := by
  decide +kernel

theorem witness_JobOpenCreates_full :
    (fullTable [8]).takes ∧ (∀ k < 256, ∃ j ∈ (fullTable [8]).jt.jobs, j.record = k) ∧ (fullTable [8]).jt.finished = [8]
      ∧ ((fullTable [8]).job? 8).isSome = true ∧ (fullTable []).jt.finished = [] := by decide +kernel

theorem witness_JobOpenCreates_numbers : JobNumbers (fullTable [8]) := by
  unfold JobNumbers; decide +kernel

/-- Job 1 in this state with its data open and this many of its 6 sheets delivered. -/
def openIn (st : JobState) (delivered : Nat) : Job :=
  { jobIn st with dataClosed := false, total := none, delivered := delivered }

theorem witness_JobCloseCloses :
    busy.takes ∧ busy.job? 1 = none ∧ (slotless .done).job? 1 = some (jobIn .done)
      ∧ (slotless .held).job? 1 = some (jobIn .held) ∧ (jobIn .held).dataClosed = true
      ∧ (withJob { job1 with complete := 0 }).job? 1 = some { job1 with complete := 0 }
      ∧ (∀ st, (withJob (openIn st 5)).job? 1 = some (openIn st 5)) ∧ (openIn .held 5).complete ≠ 0
      ∧ (openIn .held 5).delivered ≠ (openIn .held 5).copies * (openIn .held 5).complete
      ∧ (openIn .held 6).delivered = (openIn .held 6).copies * (openIn .held 6).complete
      ∧ (∀ x ∈ (withJob (openIn .held 5)).smm.images, x.job = 1 → x.complete = true)
      ∧ (withJob (openIn .spooling 5)).slotless 1 ∧ (openIn .spooling 5).holds.isEmpty = true
      ∧ ({ openIn .spooling 5 with holds := { panel := true } } : Job).holds.isEmpty = false
      ∧ (openIn .spooling 5).pinned = false ∧ (runningAt (openIn .starved 5) upPort).runsAt 3 1
      ∧ (runningAt (openIn .running 5) upPort).runsAt 3 1 := by
  refine ⟨by decide, by decide, by decide, by decide, by decide, by decide, fun st => by cases st <;> decide, ?_⟩
  decide +kernel

theorem witness_JobCloseCloses_slots :
    let s := (withJob (openIn .suspended 6)).setPort 3 { upPort with susp := some { job := 1, reason := .insert } }
    let t := (withJob (openIn .suspended 6)).setPort 3 { upPort with inc := some 1 }
    let u := { withJob (openIn .spooling 5) with smm := { images := [{ image 0 with complete := false }] } }
    s.suspendedAt 3 1 .insert ∧ t.incomingAt 3 1 ∧ (∃ x ∈ u.smm.images, x.job = 1 ∧ x.complete = false) := by
  decide +kernel

/-- The slots job 1 may be in, which the statements of the job actions name (hold, release, cancel, suspend, resume). -/
theorem witness_job_slots :
    (∀ st, (slotless st).job? 1 = some (jobIn st)) ∧ (∀ st, (inRun st).job? 1 = some (jobIn st))
      ∧ (slotless .queued).slotless 1 ∧ (inRun .running).runsAt 3 1
      ∧ (∀ why, (inSusp why).suspendedAt 3 1 why) ∧ inInc.incomingAt 3 1 ∧ busy.job? 1 = none ∧ busy.job? 0 = none
      ∧ (slotless .held).takes ∧ (inRun .running).takes := by
  refine ⟨fun st => by cases st <;> decide, fun st => by cases st <;> decide +kernel, by decide +kernel, by decide +kernel,
    fun why => by cases why <;> decide +kernel, ?_⟩
  decide +kernel

/-- The hold reasons each clause of the job actions names. -/
theorem witness_job_holds :
    (jobIn .held).holds.has .host = false ∧ ({ host := true } : Holds).has .host = true
      ∧ ({ panel := true } : Holds).releasable .panel = true ∧ ({ host := true } : Holds).releasable .panel = false
      ∧ (({ panel := true } : Holds).release .panel).isEmpty = true
      ∧ (({ host := true, panel := true } : Holds).release .panel).isEmpty = false
      ∧ ({ jobIn .held with pinned := true, bound := some 3 } : Job).bound = some 3 ∧ (jobIn .held).pinned = false := by
  decide

theorem witness_SuspendActs :
    ((inRun .running).port 3).susp = none
      ∧ (((inRun .running).modPort 3 (fun x => { x with susp := some { job := 2, reason := .host } })).port 3).susp ≠ none
      ∧ ((inRun .running).modPort 3 (fun x => { x with susp := some { job := 2, reason := .host } })).runsAt 3 1 := by
  decide +kernel

theorem witness_ResumeActs :
    (∀ q, ∀ u ∈ ((slotless .held).port q).susp, u.job ≠ 1) ∧ ((inSusp .host).port 3).run = none
      ∧ ((inSusp .host).port 3).inc = none
      ∧ (((inSusp .host).modPort 3 (fun x => { x with run := some 2 })).port 3).run ≠ none
      ∧ ((inSusp .host).modPort 3 (fun x => { x with run := some 2 })).suspendedAt 3 1 .host := by decide +kernel

theorem witness_JobMoveMoves :
    (32 : Byte).toNat = 32 ∧ (31 : Byte).toNat = (31 : Fin 32).val ∧ (busy.dest 16).enabled = false
      ∧ (busy.dest 15).enabled = true ∧ ((inRun .running).port 3).usable = true
      ∧ (((inRun .running).modPort 3 (fun x => { x with jammed := true })).port 3).usable = false
      ∧ ((inRun .running).port 3).inFlight = [] := by decide

theorem witness_JobForgetForgets :
    (slotless .done).takes ∧ (∀ j ∈ busy.jt.jobs, j.num ≠ 1) ∧ jobIn .done ∈ (slotless .done).jt.jobs
      ∧ jobIn .held ∈ (slotless .held).jt.jobs := by decide

theorem witness_JobForgetForgets_numbers : JobNumbers (slotless .done) ∧ JobNumbers busy := by
  unfold JobNumbers; decide

theorem witness_JobQueryReports : (slotless .held).takes ∧ (slotless .held).job? (1 : Half).toNat = some (jobIn .held)
    ∧ (slotless .held).job? (0 : Half).toNat = none := by decide

theorem witness_JobListReports : busy.takes ∧ (31 : Byte).toNat = (31 : Fin 32).val ∧ 31 < (32 : Byte).toNat
    ∧ (15 : Byte).toNat = (15 : PortNo).val ∧ 15 < (16 : Byte).toNat ∧ 2 < (3 : Byte).toNat := by decide

theorem witness_SequenceIsStable :
    let j := openIn .running 0
    0 < j.copies ∧ 0 < j.complete ∧ j.dataClosed = false ∧ j.collate = true ∧ 2 < j.limit
      ∧ (5 < ({ j with collate := false } : Job).limit) ∧ (jobIn .running).dataClosed = true
      ∧ (jobIn .running).total = some 6 := by decide

/-- Job 1, SPOOLING, whose one image, BUILDING with this many bytes, has the first `k` blocks of the spool. -/
def spooled (k bytes : Nat) : State :=
  { withJob job1 with smm := {
      free := List.range' k (8192 - k)
      images := [{ record := 0, job := 1, index := 0, chain := List.range k, length := bytes }] } }

theorem blocks_perm {k n : Nat} (h : k ≤ n) : (List.range' k (n - k) ++ List.range k).Perm (List.range n) := by
  have e := List.range'_append_1 (s := 0) (m := k) (n := n - k)
  rw [Nat.zero_add, Nat.add_sub_cancel' h, ← List.range_eq_range', ← List.range_eq_range'] at e
  rw [← e]
  exact List.perm_append_comm

theorem spooled_partition {k bytes : Nat} (hk : k ≤ 8192) (hb : bytes ≤ 32768 * k) : SpoolPartition (spooled k bytes) := by
  refine ⟨?_, by simp [spooled], by simpa [spooled] using hb, ?_, ?_⟩
  · have h := blocks_perm hk
    simpa only [spooled, blockCount, List.flatMap_cons, List.flatMap_nil, List.append_nil, Fin.val_zero, Nat.pow_zero,
      Nat.mul_one] using h
  · intro x hx y hy _ _ _
    simp only [spooled, List.mem_singleton] at hx hy
    rw [hx, hy]
  · intro n
    by_cases h : 1 = n
    · subst h; simp [spooled, Smm.imageCount, List.range_succ]
    · simp [spooled, Smm.imageCount, h]

/-- Job 1 with `k` complete images and no BUILDING one; every block is free. -/
def imaged (k : Nat) : State :=
  { withJob job1 with smm := {
      free := List.range 8192
      images := (List.range k).map (fun i => { record := i, job := 1, index := i, complete := true, sides := some 1 }) } }

theorem imaged_partition (k : Nat) : SpoolPartition (imaged k) := by
  have hc : (imaged k).smm.images.flatMap (fun i => i.chain) = [] := by
    simp [imaged, List.flatMap_eq_nil_iff]
  have hr : (imaged k).smm.images.map (fun i => i.record) = List.range k := by
    simp [imaged, Function.comp_def]
  refine ⟨?_, ?_, ?_, ?_, ?_⟩
  · rw [hc, List.append_nil]; simp [imaged, blockCount]
  · rw [hr]; exact List.nodup_range
  · simp [imaged]
  · simp [imaged]
  · intro n
    by_cases h : 1 = n
    · simp [imaged, Smm.imageCount, List.filter_map, Function.comp_def, h]
    · have hb : (1 == n) = false := by simpa using h
      simp [imaged, Smm.imageCount, List.filter_map, Function.comp_def, hb]

/-- Job 1 RUSH with its one image filling every block it has, and an image of job 2 with the rest of the spool. -/
theorem witness_SheetDataStores :
    (spooled 256 8388608).takes ∧ SpoolPartition (spooled 256 8388608) ∧ (1024 : Nat) ≤ 1024
      ∧ (List.replicate 1024 (7 : Byte)).length = 1024 ∧ 8388608 < 8388608 + [7].length
      ∧ SpoolPartition (spooled 1 32768)
      ∧ (({ spooled 1 32768 with cfg := { base.cfg with rushReserve := 8191 } } : State).smm.free.length = 8191)
      ∧ job1.open_ ∧ ¬ (jobIn .held).open_ ∧ (spooled 1 32767).job? 1 = some job1
      ∧ SpoolPartition (imaged 4096) ∧ 4096 ≤ (imaged 4096).smm.imageCount 1
      ∧ SpoolPartition (imaged 4095) ∧ (imaged 4095).smm.imageCount 1 < 4096 := by
  refine ⟨by decide, spooled_partition (by decide) (by decide), by decide, by decide +kernel, by decide,
    spooled_partition (by decide) (by decide), by simp [spooled], by decide, by decide, by decide,
    imaged_partition _, ?_, imaged_partition _, ?_⟩
  · simp [imaged, Smm.imageCount, List.filter_map, Function.comp_def]
  · simp [imaged, Smm.imageCount, List.filter_map, Function.comp_def]

theorem witness_SheetDataStores_canonical (k bytes : Nat) : SpoolCanonical (spooled k bytes) ∧ SpoolCanonical (imaged k) :=
  ⟨rfl, rfl⟩

theorem witness_SheetDataStores_record :
    (∀ x ∈ (imaged 2).smm.images, x.record ≠ 2) ∧ (∀ k < 2, ∃ x ∈ (imaged 2).smm.images, x.record = k)
      ∧ (∀ x ∈ (imaged 2).smm.images, x.job = 1 → x.complete = true)
      ∧ (∃ x ∈ (spooled 1 3).smm.images, x.job = 1 ∧ x.complete = false) := by decide

/-- The offsets of a duplex image of `length` bytes: 1 and the length less 1 fit, 0 and the length do not. -/
theorem witness_SheetEndCompletes :
    (spooled 1 3).takes ∧ SpoolPartition (spooled 1 3) ∧ (spooled 1 3).slotless 1 ∧ job1.holds.isEmpty = true
      ∧ job1.pinned = false ∧ job1.state = .spooling ∧ job1.earlyStart = true
      ∧ ({ openIn .starved 4 with cursor := 3 } : Job).cursor = ({ openIn .starved 4 with cursor := 3 } : Job).limit
      ∧ 0 < job1.copies ∧ (openIn .starved 4).open_ ∧ (openIn .held 4).open_
      ∧ ({ openIn .running 2 with cursor := 2 } : Job).cursor < ({ openIn .running 2 with cursor := 2 } : Job).limit
      ∧ 0 < (2 : Word).toNat ∧ (2 : Word).toNat < 3 ∧ ¬ (3 : Word).toNat < 3
      ∧ (runningAt { openIn .starved 4 with cursor := 3 } upPort).runsAt 3 1 := by
  refine ⟨by decide, spooled_partition (by decide) (by decide), ?_⟩
  decide +kernel

theorem witness_PartWideRequests :
    base.takes ∧ base.ss.saving = none ∧ (1 : Byte).toNat ≤ 1 ∧ 1 < (2 : Byte).toNat ∧ (4096 : Half).toNat ≤ 4096
      ∧ 4096 < (4097 : Half).toNat
      ∧ decide ((65 : Half).toNat ≠ 0 ∧ base.smm.free.length < (65 : Half).toNat) = true ∧ base.smm.low = false
      ∧ decide ((64 : Half).toNat ≠ 0 ∧ base.smm.free.length < (64 : Half).toNat) = base.smm.low := by decide

theorem witness_RouteRequests :
    busy.takes ∧ busy.ss.saving = none ∧ 1 ≤ (15 : Byte).toNat ∧ 15 < (16 : Byte).toNat ∧ 31 < (32 : Byte).toNat
      ∧ 3 < (4 : Byte).toNat ∧ (31 : Byte).toNat = (31 : Fin 32).val
      ∧ ((2 : Byte).toNat = ([15, 0] : List PortNo).length ∧ ([15, 0] : List PortNo).Nodup
        ∧ (#v[15, 0, 255, 255, 255, 255, 255, 255] : Vector Byte 8).toList
          = ([15, 0] : List PortNo).map (fun p => BitVec.ofNat 8 p.val) ++ List.replicate (8 - 2) 255)
      ∧ ((∀ b ∈ ([0x20, 0x7E] : List Byte), 0x20 ≤ b.toNat ∧ b.toNat ≤ 0x7E)
        ∧ (#v[0x20, 0x7E, 0, 0, 0, 0, 0, 0, 0, 0, 0, 0, 0, 0, 0, 0] : Vector Byte 16).toList
          = [0x20, 0x7E] ++ List.replicate (16 - 2) 0)
      ∧ busy.queue 31 = []
      ∧ ((busy.setQueue 31 [1]).setPort 3 upPort).queue 31 = [1]
      ∧ (((busy.setQueue 31 [1]).setPort 3 upPort).port 3).usable = true := by decide

/-- A member list that names a port twice is none that ROUTE_SET takes. -/
theorem witness_RouteRequests_refused : ∀ ports : List PortNo,
    ¬ ((2 : Byte).toNat = ports.length ∧ ports.length ≤ 8 ∧ ports.Nodup
      ∧ (#v[3, 3, 255, 255, 255, 255, 255, 255] : Vector Byte 8).toList
        = ports.map (fun p => BitVec.ofNat 8 p.val) ++ List.replicate (8 - ports.length) 255) := by
  rintro ports ⟨hl, -, hn, he⟩
  match ports, hl with
  | [p, q], _ =>
    simp only [List.map_cons, List.map_nil, List.cons_append, List.nil_append] at he
    injection he with h1 h2
    injection h2 with h2 _
    have hpq : p.val = q.val := by
      have := congrArg BitVec.toNat (h1.symm.trans h2)
      simp only [BitVec.toNat_ofNat] at this
      omega
    simp [Fin.ext hpq] at hn

/-- Three queued jobs of destination 0, of one class: number 1 and 2 of priority 5, entered at 10 and 20, number 3 of 3. -/
def threeQueued : State :=
  let j (n p e : Nat) : Job := { job1 with
    record := n, num := n, priority := p, state := .queued, queueEntry := some e, dataClosed := true, total := some 2
    complete := 1 }
  { busy with
    jt := { jobs := [j 1 5 10, j 2 5 20, j 3 3 5, { j 4 5 20 with rush := true }], lastNum := 4 }
    dt := { queues := Vector.ofFn (fun d => if d = 0 then [1, 2, 3] else []) } }

theorem witness_QueueOrder :
    (threeQueued.job? 4).isSome = true ∧ 4 ∉ [1, 2, 3] ∧ (∀ n ∈ [1, 2, 3], threeQueued.job? n ≠ none)
      ∧ threeQueued.ordered [1, 2, 3] := by
  refine ⟨by decide, by decide, by decide, ?_⟩
  unfold State.ordered
  simp only [List.pairwise_cons, List.mem_cons, List.not_mem_nil, or_false, forall_eq_or_imp, forall_eq,
    List.Pairwise.nil, and_true, false_implies, implies_true]
  refine ⟨⟨?_, ?_⟩, ?_⟩ <;> intro a b ha hb <;>
    (injection ha with ha; injection hb with hb; subst ha; subst hb; decide)

/-- An offer of RUSH job 4 to members 3 (busy with NORMAL job 1, room to make) and 5 (down), and with no member free. -/
theorem witness_SchedulerChoices :
    let s := ((threeQueued.setDest 0 { members := [5, 3], enabled := true, insert := true }).setQueue 0 [4, 2, 3]).modJob 1
      (fun j => { j with state := .running })
    let s := s.setPort 3 { upPort with run := some 1 }
    (s.job? 4).isSome = true ∧ (s.dest 0).enabled = true ∧ 4 ∈ s.queue 0 ∧ 1 ∉ s.queue 0 ∧ s.job? 5 = none
      ∧ (s.port 5).usable = false ∧ (s.port 3).run ≠ none ∧ (s.port 3).susp = none ∧ (s.port 3).inc = none
      ∧ (s.job? 1).map (fun j => (j.rush, j.state)) = some (false, .running) ∧ (s.port 3).usable = true
      ∧ s.runsAt 3 1 ∧ s.slotless 4
      ∧ ((s.setPort 5 upPort).port 5).usable = true ∧ ((s.setPort 5 upPort).port 5).run = none := by decide +kernel

/-- The states in which a pull finds each thing it may find. -/
theorem witness_SchedulerChoices_pull :
    let s := (threeQueued.setPort 0 upPort)
    (inInc.port 3).run = none ∧ (inInc.port 3).inc = some 1
      ∧ ((inSusp .ret).port 3).susp = some { job := 1, reason := .ret } ∧ ((inSusp .ret).port 3).inc = none
      ∧ (s.port 0).usable = true ∧ (s.port 0).pinnedQ = [] ∧ (bestCandidate s 0).map (fun c => (c.1, c.2.num)) = some (0, 1)
      ∧ bestCandidate s 1 = none
      ∧ ((s.modPort 0 (fun x => { x with pinnedQ := [2, 3] })).port 0).pinnedQ = 2 :: [3] := by decide +kernel

theorem witness_RunSlotChanges :
    (inRun .draining).job? 1 = some (jobIn .draining) ∧ (inRun .draining).runsAt 3 1
      ∧ (jobIn .draining).inFlight = 0 ∧ (jobIn .cancelling).state = .cancelling
      ∧ ({ jobIn .running with delivered := 6 } : Job).total = some 6
      ∧ ({ jobIn .draining with holds := { credit := true } } : Job).holds.isEmpty = false
      ∧ (jobIn .draining).holds.isEmpty = true
      ∧ ({ jobIn .draining with purpose := some .suspendInsert } : Job).purpose = some .suspendInsert
      ∧ (openIn .queued 0).dataClosed = false
      ∧ ({ openIn .queued 0 with cursor := 3 } : Job).cursor = ({ openIn .queued 0 with cursor := 3 } : Job).limit
      ∧ (∀ q : PortNo, q ≠ 3 → ((slotless .queued).port q).run ≠ some 1) := by
  decide +kernel

/-- Job 1 with a sheet to send at port 3, its images complete. -/
def sending : State := { inRun .running with smm := { images := [image 0, image 1, image 2] } }

theorem witness_DispatchSends :
    (sending.port 3).run = some 1 ∧ sending.job? 1 = some (jobIn .running)
      ∧ (sending.port 3).usable = true ∧ (jobIn .running).cursor < (jobIn .running).limit
      ∧ (sending.port 3).inFlight.length < (sending.port 3).effWindow
      ∧ (∀ f ∈ (sending.port 3).inFlight, f.stage = .taken)
      ∧ sending.smm.image? 1 ((jobIn .running).place 4).1 = some (image 1)
      ∧ (sending.account 0).limited = false
      ∧ ¬ (({ limited := true, limit := 9, periodCharged := 10 } : Account).periodCharged ≤ 9) := by decide

theorem witness_SheetChargeFormula :
    sheet851.check = 0 ∧ (∀ k : Fin 16, sheet851.base[k] ≤ 65535) ∧ (∀ k : Fin 8, sheet851.size[k] ≤ 255)
      ∧ sheet851.second ≤ 16 ∧ 9999 < sheet851.t2 ∧ sheet851.t1 ≤ 1000 ∧ sheet851.t3 ≤ 50000
      ∧ ({ discount := #v[0, 0, 0, 91] } : Tariff).check ≠ 0 := by decide

theorem witness_PortSetSets :
    busy.takes ∧ busy.ss.saving = none ∧ 16 < (17 : Byte).toNat ∧ (15 : Byte).toNat = (15 : PortNo).val
      ∧ (1 ≤ (32 : Byte).toNat ∧ (32 : Byte).toNat ≤ 32 ∧ (255 : Byte) ≠ 0 ∧ (1 : Byte).toNat ≤ 1)
      ∧ ¬ (33 : Byte).toNat ≤ 32 ∧ ((busy.setPort 15 upPort).port 15).link = .up ∧ (busy.port 15).link ≠ .up := by
  decide

theorem witness_PortQueryReports : busy.takes ∧ 16 < (17 : Byte).toNat ∧ (15 : Byte).toNat = (15 : PortNo).val
    ∧ (1 : Byte).toNat = 1 ∧ 1 < (2 : Byte).toNat := by decide

theorem witness_WakeAndPause :
    let s := busy.setPort 3 { upPort with pauseHost := true, pausePanel := true }
    s.takes ∧ 15 < (16 : Byte).toNat ∧ 2 < (3 : Byte).toNat ∧ (2 : Byte).toNat = WakeMode.forceOff.code
      ∧ (s.port 3).wakeMode ≠ .forceOff ∧ (s.port 3).wakeMode = .auto ∧ (s.port 3).pauseHost = true
      ∧ (s.port 3).pausePanel = true ∧ (busy.port 3).pauseHost = false ∧ (busy.port 3).pausePanel = false
      ∧ (15 : Half).toNat = (15 : PortNo).val := by decide

theorem witness_panel_pause :
    (panelAwaited (inRun .running)).awaits 7 .floor 255 3 ∧ (panelAwaited (inRun .running)).awaits 7 .floor 255 4
      ∧ ((panelAwaited (inRun .running)).port 3).pausePanel = false :=
  ⟨panelAwaited_awaits _ (.inr rfl) _ _ _, panelAwaited_awaits _ (.inr rfl) _ _ _, by decide⟩

theorem witness_WakeTableApplied :
    (base.port 3).link = .down ∧ (base.port 3).wakeMode = .auto ∧ demand base 3 = false
      ∧ demand (inRun .running) 3 = true ∧ demand (threeQueued.setPort 0 {}) 0 = true
      ∧ ((busy.setPort 3 { link := .waking, wakeMode := .forceOff }).port 3).link = .waking
      ∧ ((busy.setPort 3 { link := .offline }).port 3).wakeMode ≠ .forceOff
      ∧ ((inRun .running).port 3).link = .up ∧ ((inRun .running).port 3).inFlight = []
      ∧ ((runningAt (jobIn .running) { upPort with inFlight := [flight 4 0 .sent] }).port 3).inFlight ≠ [] := by
  decide +kernel

theorem witness_PortTimers :
    let s := fun (x : Port) => busy.setPort 3 x
    (s { link := .offline }).takes ∧ ((s { link := .recovering, attempt := some 2 }).port 3).attempt = some 2 ∧ 2 < 3
      ∧ ((s { link := .recovering, attempt := some 3 }).port 3).attempt = some 3
      ∧ ((s { link := .waking, hailTimer := true, wakeTimer := some 90 }).port 3).wakeTimer ≠ none
      ∧ ((s { upPort with idleTimer := some 20 }).port 3).idleTimer ≠ none
      ∧ ((s { upPort with idleTimer := some 20 }).port 3).inFlight = [] ∧ ((s {}).port 3).link ≠ .up := by decide

theorem witness_PrinterReports :
    let s := fun (x : Port) => busy.setPort 3 x
    1 < (2 : Byte).toNat ∧ (1 : Byte).toNat ≤ 1 ∧ ((s { link := .recovering }).port 3).link = .recovering
      ∧ ((s upPort).port 3).link = .up ∧ ((s upPort).port 3).inFlight = []
      ∧ ((s { upPort with inFlight := [flight 4 0 .sent] }).port 3).inFlight ≠ []
      ∧ ((s { upPort with jammed := true }).port 3).jammed = true ∧ ((s upPort).port 3).jammed = false := by decide

/-- Job 1 running with its last sheet TAKEN at port 3, which is paused. -/
def lastSheet : State :=
  runningAt { jobIn .running with cursor := 6, delivered := 5, inFlight := 1 } { upPort with
    pauseHost := true, inFlight := [flight 5 0 .taken] }

theorem witness_SheetsDelivered :
    (lastSheet.port 3).inFlight = flight 5 0 .taken :: [] ∧ (lastSheet.port 3).link = .up
      ∧ (flight 5 0 .taken).tag = 5 ∧ (lastSheet.job? 1).map (fun j => (j.dataClosed, j.total)) = some (true, some 6)
      ∧ lastSheet.runsAt 3 1 ∧ lastSheet.nobodyWaits 3 ∧ (lastSheet.port 3).usable = false
      ∧ (flight 5 0 .sending).stage = .sending ∧ (flight 5 0 .sent).stage = .sent
      ∧ ([flight 4 0 .taken, flight 5 0 .sent] = [flight 4 0 .taken] ++ [flight 5 0 .sent])
      ∧ (∀ f ∈ ([flight 5 0 .taken] : List Flight).getLast?, f.stage ≠ .sent ∨ f.tag ≠ 5)
      ∧ (∀ f ∈ ([flight 5 0 .sent] : List Flight).head?, f.stage ≠ .taken ∨ f.tag ≠ 5) := by decide +kernel

theorem witness_JamAndStall :
    let s := runningAt { jobIn .running with cursor := 5, inFlight := 1 } { upPort with
      inFlight := [flight 4 0 .taken], watchdog := some 30 }
    (s.port 3).link = .up ∧ (s.port 3).run = some 1 ∧ (s.job? 1).map (fun j => j.state) = some .running
      ∧ (s.job? 1).map (fun j => decide (j.delivered < j.limit)) = some true ∧ (s.port 3).jammed = false
      ∧ (15 : Byte).toNat ≤ 15 ∧ 15 < (16 : Byte).toNat ∧ (s.port 3).watchdog ≠ none ∧ (s.port 3).wakeMode ≠ .forceOff
      ∧ (busy.port 3).watchdog = none ∧ ((s.modPort 3 (fun x => { x with link := .recovering })).port 3).link = .recovering
      ∧ ∀ n, ((busy.setPort 3 upPort).port 3).run = some n → (busy.setPort 3 upPort).job? n = none := by
  refine ⟨by decide, by decide, by decide, by decide, by decide, by decide, by decide, by decide, by decide, by decide,
    by decide, fun n h => ?_⟩
  cases h

/-- A run job that the rewind finds DRAINING, for each purpose, or CANCELLING, nothing being about to return; and a
STARVED one with every sheet of its limit delivered and nothing in flight. -/
theorem witness_JamAndStall_ends :
    let drains (why : Purpose) : Job := { jobIn .draining with purpose := some why }
    let s (j : Job) : State := runningAt j { upPort with watchdog := some 30 }
    let full : Job := { openIn .starved 3 with cursor := 3 }
    (s (jobIn .cancelling)).job? 1 = some (jobIn .cancelling) ∧ (s (jobIn .cancelling)).runsAt 3 1
      ∧ (s (drains .suspendHost)).runsAt 3 1 ∧ (drains .suspendHost).holds.isEmpty = true
      ∧ ¬ ((drains .credit).dataClosed = true ∧ (drains .credit).total = some (drains .credit).delivered)
      ∧ ({ drains .hold with holds := { host := true } } : Job).holds.isEmpty = false
      ∧ ({ drains .credit with delivered := 6 } : Job).total = some 6
      ∧ ((s (drains .suspendHost)).port 3).inc = none ∧ ((s (drains .suspendHost)).port 3).susp = none
      ∧ (((s (drains .suspendInsert)).modPort 3 (fun x => { x with inc := some 2 })).port 3).inc = some 2
      ∧ ((s (drains .suspendInsert)).modPort 3 (fun x => { x with inc := some 2 })).runsAt 3 1
      ∧ full.dataClosed = false ∧ full.delivered = full.limit ∧ (s full).runsAt 3 1 := by decide +kernel

theorem witness_TariffEdits :
    let direct : State := { busy with cfg := { busy.cfg with direct := true } }
    busy.takes ∧ busy.ss.saving = none ∧ direct.takes ∧ direct.cfg.direct = true ∧ busy.cfg.direct = false
      ∧ (1 : Byte).toNat = (if true then 1 else 0) ∧ (15 : Byte).toNat = (15 : Fin 16).val
      ∧ (65535 : Word).toNat ≤ 65535 ∧ 65535 < (65536 : Word).toNat ∧ (100 : Word).toNat ≤ 100
      ∧ ({ direct.cfg.active with t1 := 9999 } : Tariff).check = 0
      ∧ ({ direct.cfg.active with t1 := 10000 } : Tariff).check ≠ 0 := by decide

theorem witness_Cutovers :
    let s : State := { busy with cfg := { busy.cfg with schedule := some { time := 101, close := true } } }
    busy.takes ∧ busy.ss.saving = none ∧ busy.cfg.staged.check = 0 ∧ busy.cfg.schedule = none
      ∧ s.cfg.schedule = some { time := 101, close := true } ∧ 101 ≤ s.nextClock ∧ s.cfg.schedule ≠ none
      ∧ ({ t1 := 10000 } : Tariff).check ≠ 0 ∧ 1 < (2 : Byte).toNat := by decide

theorem witness_AccountRequests :
    let j := { jobIn .held with holds := { credit := true } }
    busy.takes ∧ busy.ss.saving = none ∧ (127 : Byte).toNat = (127 : Fin 128).val ∧ 127 < (128 : Byte).toNat
      ∧ (15 : Byte).toNat ≤ 15 ∧ 15 < (16 : Byte).toNat ∧ (withJob j).job? 1 = some j ∧ (withJob j).slotless 1
      ∧ j.pinned = false ∧ j.holds.host = false ∧ ({ host := true, credit := true } : Holds).host = true := by
  decide +kernel

theorem witness_AlertTransitions :
    let s := fun (a : Alert) => base.setAlert 21 a
    (base.alert 112).state = .quiet ∧ ((s { on := true, state := .raised }).alert 21).state = .raised
      ∧ ((21 : EntryNo).val % 7 < 4 ∧ (21 : EntryNo).val ≠ 112)
      ∧ ¬ ((112 : EntryNo).val % 7 < 4 ∧ (112 : EntryNo).val ≠ 112) ∧ ¬ ((25 : EntryNo).val % 7 < 4)
      ∧ ((s { on := true, state := .acked }).alert 21).state = .acked
      ∧ ((s { state := .linger }).alert 21).state = .linger ∧ ((s {}).alert 21).state = .quiet := by decide

theorem witness_AlertCommands :
    let raised : State := { base.setAlert 112 { on := true, state := .raised } with
      au := { (base.setAlert 112 { on := true, state := .raised }).au with announced := [112], silenced := true } }
    base.takes ∧ raised.takes ∧ (base.alert 0).state ≠ .raised ∧ (raised.alert 112).state = .raised
      ∧ raised.cfg.escalation ≠ 0 ∧ raised.au.silenced = true ∧ base.au.silenced = false
      ∧ (112 : Byte).toNat = (112 : EntryNo).val ∧ 112 < (113 : Byte).toNat ∧ raised.au.announced ≠ []
      ∧ base.au.announced = [] ∧ (143 : Byte).toNat = 128 + (15 : PortNo).val ∧ 143 < (144 : Byte).toNat
      ∧ (base.portCfg 15).lampHost = false ∧ base.ss.saving = none
      ∧ ((base.setPortCfg 15 { lampHost := true }).portCfg 15).lampHost = true
      ∧ (2 : Byte).toNat = Lamp.flash.code ∧ (112 : Half).toNat = (112 : EntryNo).val := by decide

/-- Entry 112 is RAISED from time 0 on: 60 s lie beyond the first second, and within the one that begins at time 59. -/
theorem witness_escalation :
    let s := fun k => { base.setAlert 112 { on := true, state := .raised } with base := { now := k, secondAt := k } }
    ((s 0).alert 112).state = .raised ∧ (s 0).cfg.escalation ≠ 0
      ∧ (s 0).base.secondAt + Config.second < ((s 0).alert 112).raisedAt + (s 0).cfg.escalation * Config.second
      ∧ ((s 0).alert 112).raisedAt + (s 0).cfg.escalation * Config.second
          ≤ (s (59 * Config.second)).base.secondAt + Config.second := by
  have h : 0 < Config.second := Nat.succ_pos _
  refine ⟨by decide, by decide, ?_, ?_⟩
  · show 0 + Config.second < 0 + 60 * Config.second
    omega
  · show 0 + 60 * Config.second ≤ 59 * Config.second + Config.second
    omega

theorem witness_panel_alerts :
    (panelAwaited (slotless .held)).awaits 7 .ack 1 1 ∧ (panelAwaited (slotless .held)).awaits 7 .ack 1 2 :=
  ⟨panelAwaited_awaits _ (.inl rfl) _ _ _, panelAwaited_awaits _ (.inl rfl) _ _ _⟩

theorem witness_PanelBus :
    let s := panelAwaited base
    let absent := s.setPanel 7 { polledAt := some 0 }
    let low := s.setPanelCfg 7 { fitted := true, rights := .view }
    s.pbc.awaiting ≠ none ∧ base.pbc.awaiting = none ∧ (base.panelCfg 0).fitted = true
      ∧ (base.panel 0).present = false ∧ (∀ t ∈ (base.panel 0).polledAt, t + 2 * Config.second ≤ (openAct base).base.now) ∧ base.pbc.roundNext ≤ (0 : Fin 8).val
      ∧ s.pbc.awaiting = some { panel := 7, poll := ⟨0x60, 7, []⟩ } ∧ (s.panel 7).present = true
      ∧ (s.panel 7).misses < 2 ∧ 2 ≤ ((s.setPanel 7 { present := true, misses := 2 }).panel 7).misses
      ∧ (absent.panel 7).present = false ∧ (absent.panel 7).polledAt = some 0
      ∧ (low.panelCfg 7).rights.code < Rights.ack.code ∧ Rights.view.code ≤ (low.panelCfg 7).rights.code
      ∧ 9 < (10 : Byte).toNat ∧ ¬ (113 : Half).toNat ≤ 112 ∧ ¬ (16 : Half).toNat ≤ 15 := by decide

theorem witness_PanelSettings :
    base.takes ∧ base.ss.saving = none ∧ (7 : Byte).toNat = (7 : Fin 8).val ∧ 7 < (8 : Byte).toNat
      ∧ (3 : Byte).toNat = Rights.full.code ∧ 3 < (4 : Byte).toNat ∧ (base.panelCfg 7).fitted = true
      ∧ (∀ e ∈ base.pbc.awaiting, e.panel ≠ 7) ∧ (base.panel 7).present = false
      ∧ (panelAwaited base).takes ∧ (panelAwaited base).pbc.awaiting = some { panel := 7, poll := ⟨0x60, 7, []⟩ }
      ∧ ((panelAwaited base).panel 7).present = true := by decide

/-- The invariants hold of a state with a command that answers next waiting. -/
theorem witness_invariants :
    let s : State := { base with pending := [.identify 1] }
    LinkBounds s ∧ JobNumbers s ∧ SpoolCanonical s ∧ ActiveConsistent s ∧ WindowsHold s ∧ TimeWithinSecond s
      ∧ HornFollows s ∧ ∃ t, step s = .next t := by
  have h : ∀ e, ({ base with pending := [.identify 1] } : State).alert e = {} := fun e => Vector.getElem_replicate ..
  refine ⟨?_, ?_, rfl, by unfold ActiveConsistent; decide, ?_, ⟨Nat.le_refl 0, Nat.zero_le _, fun e => ?_⟩, ?_, _, rfl⟩
  · unfold LinkBounds; decide
  · unfold JobNumbers; decide
  · unfold WindowsHold; decide +kernel
  · rw [h]; exact Nat.le_refl 0
  · refine ⟨fun hh => absurd (hh : false = true) (by decide), fun ⟨_, _, e, he, _⟩ => ?_⟩
    rw [h] at he; exact absurd he (by decide)

theorem witness_AlertsKept : AlertTable base ∧ SourcesAgree base := by
  refine ⟨⟨?_, by decide, ?_⟩, ?_, by decide⟩
  · intro e
    have h : base.alert e = {} := Vector.getElem_replicate ..
    rw [h]; rfl
  · intro e
    have h : base.alert e = {} := Vector.getElem_replicate ..
    have ha : base.au.announced = [] := rfl
    rw [h, ha]; simp
  · intro p k _
    have h : base.alert (entryNo p k) = {} := Vector.getElem_replicate ..
    have hp : base.port p = {} := Vector.getElem_replicate ..
    rw [h, hp]; cases k <;> rfl

theorem witness_SpoolKept : SpoolPartition (spooled 256 8388608) ∧ SpoolCanonical (spooled 256 8388608)
    ∧ ∃ t, step { spooled 256 8388608 with pending := [.identify 1] } = .next t :=
  ⟨spooled_partition (by decide) (by decide), rfl, _, rfl⟩

end Sys2Proof.Tests
end

section
/-! PROOF. The message link's transmitter (R4, R7 to R10): what an idle transmitter picks, how a notice joins, what the
end of a frame leaves. -/

namespace Sys2Proof.Machine

variable {s : State}

/-! ### What the transmitter picks (R7) -/

theorem pump_sending {f : Frame} {b : Bool} (h : s.mlc.tx = .sending f b) : pump s = s := by
  simp [pump, h]

theorem pump_idle (h : s.mlc.tx = .idle) : pump s = pickFrame s := by
  simp [pump, h]

theorem readyReply_eq_none {m : Mlc} (h : ∀ e ∈ m.holding.head?, e.stage ≠ .replyReady) : readyReply m = none := by
  unfold readyReply
  split
  · next e rest heq =>
    have he : e.stage ≠ .replyReady := h e (by simp [heq])
    split
    · next hs _ => exact absurd hs he
    · rfl
  · rfl

theorem readyReply_eq_some {m : Mlc} {e : Entry} {rest : List Entry} {f : Frame} (hh : m.holding = e :: rest)
    (hs : e.stage = .replyReady) (hr : e.reply = some f) : readyReply m = some (e, f, rest) := by
  simp [readyReply, hh, hs, hr]

/-- A notice goes out after a reply, or when no reply is ready. -/
theorem pickFrame_notice {n : Notice} {rest : List Notice} (hn : s.mlc.notices = n :: rest)
    (h : s.mlc.lastReply = true ∨ readyReply s.mlc = none) : pickFrame s = startNotice n rest s := by
  rcases h with hl | hr
  · simp [pickFrame, hl, hn]
  · cases hl : s.mlc.lastReply <;> simp [pickFrame, hl, hn, hr]

/-- A ready reply goes out after a notice, or when no notice waits. -/
theorem pickFrame_reply {e : Entry} {f : Frame} {rest : List Entry} (hr : readyReply s.mlc = some (e, f, rest))
    (h : s.mlc.lastReply = false ∨ s.mlc.notices = []) : pickFrame s = startReply e f rest s := by
  rcases h with hl | hn
  · simp [pickFrame, hl, hr]
  · cases hl : s.mlc.lastReply <;> simp [pickFrame, hl, hn, hr]

theorem pickFrame_nothing (hn : s.mlc.notices = []) (hr : readyReply s.mlc = none) : pickFrame s = s := by
  cases hl : s.mlc.lastReply <;> simp [pickFrame, hl, hn, hr]

/-! ### The notice queue and its frames (R8, R9) -/

/-- A notice frame as R9 composes it: tag 0, the overrun indication in bit 0 of the flags byte, then the contents. -/
theorem noticeFrame_eq (n : Notice) (overrun : Bool) :
    noticeFrame n overrun = ⟨n.kind, 0, (if overrun then 1 else 0) :: n.contents⟩ := by
  cases overrun <;> rfl

/-- The two cases of R8, room and a full queue, in one equation. -/
theorem pushNotice_eq (n : Notice) (s : State) : pushNotice n s = { s with mlc := { s.mlc with
    notices := (if s.mlc.notices.length < 32 then s.mlc.notices else s.mlc.notices.tail) ++ [n]
    overrun := s.mlc.overrun || decide (32 ≤ s.mlc.notices.length) } } := by
  by_cases h : s.mlc.notices.length < 32
  · have hd : decide (32 ≤ s.mlc.notices.length) = false := by simpa using h
    simp [pushNotice, noticeCapacity, h, hd]
  · have hd : decide (32 ≤ s.mlc.notices.length) = true := by simpa using h
    simp [pushNotice, noticeCapacity, h, hd]

/-! ### The end of a frame (R4, R7, R10) -/

/-- An act that nothing follows from queues its notices and looks at the transmitter. -/
@[simp] theorem closeAct_nil (s : State) : closeAct (s, []) = pump (flushNotes s) := by
  simp [closeAct]

/-- No restart takes effect unless the frame is an accepted RESTART's reply. -/
theorem announcing_eq_none {m : Mlc} {f : Frame} {isReply : Bool} (htx : m.tx = .sending f isReply)
    (h : m.restart = none ∨ isReply = false ∨ f.kind ≠ 0x85 ∨ f.payload ≠ [0]) : m.announcing = none := by
  cases isReply with
  | false => simp [Mlc.announcing, htx]
  | true =>
    rcases h with hr | hf | hk | hp
    · simp [Mlc.announcing, htx, hr]
    · cases hf
    · simp only [Mlc.announcing, htx]; exact if_neg fun hc => hk hc.1
    · simp only [Mlc.announcing, htx]; exact if_neg fun hc => hp hc.2

theorem sent_eq {m : Mlc} {f : Frame} {isReply : Bool} (htx : m.tx = .sending f isReply) :
    m.sent = { m with tx := .idle, lastReply := isReply
                      holding := if isReply then m.holding.tail else m.holding } := by
  simp [Mlc.sent, htx]

theorem exec_frameSent (s : State) : exec .frameSent s = .next (closeAct (endFrame (openAct s))) := rfl

theorem endFrame_of_announcing_none (h : s.mlc.announcing = none) :
    endFrame s = ({ s with mlc := s.mlc.sent }, []) := by
  simp [endFrame, h]

/-- Settles O10: the choice of the next frame by what `readyReply` finds, the notice queue's two cases, and the end of
a frame that announces no restart. -/
theorem transmitterTurns : Obligations.TransmitterTurns := by
  unfold Obligations.TransmitterTurns
  refine ⟨fun s f b htx => pump_sending htx, ?notice, ?reply, ?nothing, ?frameEnd, pushNotice_eq⟩
  case notice =>
    intro s n rest htx hn h
    rw [pump_idle htx, pickFrame_notice hn (h.imp_right readyReply_eq_none), startNotice, noticeFrame_eq]
  case reply =>
    intro s e rest f htx hh hs hr h
    rw [pump_idle htx, pickFrame_reply (readyReply_eq_some hh hs hr) h, startReply]
  case nothing =>
    intro s htx hn h
    rw [pump_idle htx, pickFrame_nothing hn (readyReply_eq_none h)]
  case frameEnd =>
    intro s f isReply htx h
    have ha : (openAct s).mlc.announcing = none := announcing_eq_none htx h
    have hm : (openAct s).mlc.sent = { s.mlc with
        tx := .idle, lastReply := isReply
        holding := if isReply then s.mlc.holding.tail else s.mlc.holding } := sent_eq htx
    rw [Ends, exec_frameSent, endFrame_of_announcing_none ha, closeAct_nil, hm]

end Sys2Proof.Machine
end

section
/-! PROOF. The receiver on the bytes of one frame (R1, R2): it collects what comes before the last
byte, and there it finds the frame. -/

namespace Sys2Proof.Machine

variable {f : Frame}

/-! ### The bytes after the sync byte -/

/-- The bytes of a frame that a receiver collects: all but the sync byte (R1). -/
def collectedBytes (f : Frame) : List Byte := frameBody f ++ be16 (crc16 (frameBody f)).toNat

theorem frameBytes_eq (f : Frame) : frameBytes f = syncByte :: collectedBytes f := rfl

@[simp] theorem be16_length (n : Nat) : (be16 n).length = 2 := rfl

@[simp] theorem frameBody_length (f : Frame) : (frameBody f).length = f.payload.length + 4 := by
  simp [frameBody]; omega

@[simp] theorem collectedBytes_length (f : Frame) : (collectedBytes f).length = f.payload.length + 6 := by
  simp [collectedBytes]

/-- A two-byte field reads as the number it was composed of. -/
theorem halfAt_be16 {pre post : List Byte} {n : Nat} (h : n < 65536) :
    halfAt (pre ++ (be16 n ++ post)) pre.length = n := by
  simp [halfAt, byteAt, be16]
  omega

theorem halfAt_length_collected {post : List Byte} (h : f.payload.length ≤ maxPayload) :
    halfAt (be16 f.payload.length ++ post) 0 = f.payload.length :=
  halfAt_be16 (pre := []) (by unfold maxPayload at h; omega)

/-- Any two bytes or more of a frame's front hold its length field. -/
theorem halfAt_front {got : List Byte} (hL : f.payload.length ≤ maxPayload) (hp : got <+: collectedBytes f)
    (h2 : 2 ≤ got.length) : halfAt got 0 = f.payload.length := by
  have hf : be16 f.payload.length <+: collectedBytes f := by simp [collectedBytes, frameBody]
  obtain ⟨post, rfl⟩ := List.prefix_of_prefix_length_le hf hp h2
  exact halfAt_length_collected hL

theorem take_collectedBytes (f : Frame) : (collectedBytes f).take (f.payload.length + 4) = frameBody f := by
  rw [← frameBody_length, collectedBytes, List.take_left]

theorem halfAt_check (f : Frame) :
    halfAt (collectedBytes f) (f.payload.length + 4) = (crc16 (frameBody f)).toNat := by
  have h := halfAt_be16 (pre := frameBody f) (post := []) (crc16 (frameBody f)).isLt
  simpa [collectedBytes] using h

/-- The bytes collected spell the frame they were composed of. -/
theorem frameOf_collectedBytes (h : f.payload.length ≤ maxPayload) : frameOf (collectedBytes f) = f := by
  have hl : halfAt (collectedBytes f) 0 = f.payload.length := halfAt_front h (List.prefix_refl _) (by simp)
  have hk : (collectedBytes f).getD 2 0 = f.kind := rfl
  have ht : (collectedBytes f).getD 3 0 = f.tag := rfl
  have hp : (collectedBytes f).drop 4 = f.payload ++ be16 (crc16 (frameBody f)).toNat := rfl
  rw [frameOf, hl, hk, ht, hp, List.take_left]

/-! ### What the receiver makes of them -/

theorem rxByte_sync : rxByte .hunting syncByte = (.inFrame [], .nothing) := by simp [rxByte]

/-- The front of a frame, short of its last byte, is collected further. -/
theorem rxJudge_front {got : List Byte} (hL : f.payload.length ≤ maxPayload) (hp : got <+: collectedBytes f)
    (hlt : got.length < f.payload.length + 6) : rxJudge got = (.inFrame got, .nothing) := by
  unfold rxJudge
  by_cases h2 : got.length < 2
  · rw [if_pos h2]
  · have hl : halfAt got 0 = f.payload.length := halfAt_front hL hp (by omega)
    rw [if_neg h2, hl, if_neg (by omega), if_pos hlt]

/-- At its last byte the frame is found, its check agreeing. -/
theorem rxJudge_whole (hL : f.payload.length ≤ maxPayload) :
    rxJudge (collectedBytes f) = (.hunting, .frame f) := by
  have hl : halfAt (collectedBytes f) 0 = f.payload.length := halfAt_front hL (List.prefix_refl _) (by simp)
  unfold rxJudge
  rw [if_neg (by simp), hl, if_neg (by omega), if_neg (by simp), take_collectedBytes, halfAt_check, if_pos rfl,
    frameOf_collectedBytes hL]

/-! ### The host link takes one frame -/

theorem hostByte_nothing {s : State} {b : Byte} {r : Rx} (h : rxByte s.mlc.rx b = (r, .nothing)) :
    hostByte s b = { s with mlc := { s.mlc with rx := r } } := by
  simp [hostByte, h]

theorem hostByte_frame {s : State} {b : Byte} {r : Rx} (h : rxByte s.mlc.rx b = (r, .frame f)) :
    hostByte s b = hostFrame f { s with mlc := { s.mlc with rx := r } } := by
  simp [hostByte, h]

/-- With the front of a frame collected, the rest of its bytes present the frame. -/
theorem hostByte_rest (hL : f.payload.length ≤ maxPayload) (rest got : List Byte) (s : State)
    (hrx : s.mlc.rx = .inFrame got) (hw : got ++ rest = collectedBytes f) (hne : rest ≠ []) :
    rest.foldl hostByte s = hostFrame f { s with mlc := { s.mlc with rx := .hunting } } := by
  induction rest generalizing got s with
  | nil => exact absurd rfl hne
  | cons b rest ih =>
    have hw' : (got ++ [b]) ++ rest = collectedBytes f := by simpa using hw
    rw [List.foldl_cons]
    by_cases hr : rest = []
    · subst hr
      have hb : rxByte s.mlc.rx b = (.hunting, .frame f) := by
        rw [hrx, rxByte, ← rxJudge_whole hL, ← hw', List.append_nil]
      rw [List.foldl_nil, hostByte_frame hb]
    · have hlen := congrArg List.length hw'
      have hpos := List.length_pos_iff.mpr hr
      have hb : rxByte s.mlc.rx b = (.inFrame (got ++ [b]), .nothing) := by
        rw [hrx, rxByte]
        refine rxJudge_front hL ⟨rest, hw'⟩ ?_
        simp only [List.length_append, collectedBytes_length] at hlen ⊢
        omega
      rw [hostByte_nothing hb, ih (got ++ [b]) _ rfl hw' hr]

/-- The bytes of a frame present it to a HUNTING receiver, which is HUNTING again. -/
theorem foldl_hostByte_frameBytes {s : State} (hL : f.payload.length ≤ maxPayload) (hrx : s.mlc.rx = .hunting) :
    (frameBytes f).foldl hostByte s = hostFrame f s := by
  have hsync : rxByte s.mlc.rx syncByte = (.inFrame [], .nothing) := by rw [hrx, rxByte_sync]
  have hne : collectedBytes f ≠ [] := by simp [← List.length_pos_iff]
  have hself : { s with mlc := { s.mlc with rx := .hunting } } = s := by rw [← hrx]
  rw [frameBytes_eq, List.foldl_cons, hostByte_nothing hsync, hostByte_rest hL _ [] _ rfl (List.nil_append _) hne]
  exact congrArg (hostFrame f) hself

/-- A complete frame's bytes, as the command that carries them: the frame is presented in one act (R3). -/
theorem exec_hostFrameReceived_frameBytes {s : State} (hL : f.payload.length ≤ maxPayload)
    (hrx : s.mlc.rx = .hunting) :
    exec (.hostFrameReceived (frameBytes f)) s = .next (hostFrame f (openAct s)) :=
  congrArg Host.Outcome.next (foldl_hostByte_frameBytes hL hrx)

end Sys2Proof.Machine
end

section
/-! PROOF. What the block that owns a request leaves of the message link: everything but the shop clock, CLOCK_UNSET,
RESET_SEEN and the accepted RESTART, which the MLC's own requests write (R10, R12, R14). -/

namespace Sys2Proof.Machine

variable {s : State}

/-! ### A fact about every answer of acceptance -/

/-- The state that an answer leaves, if it is acceptance, is one of which `P` holds. -/
def Leaves (P : State → Prop) : Answer → Prop
  | .ok r => P r.st
  | .error _ => True

section
variable {P : State → Prop}

@[simp] theorem leaves_ok (r : Accepted) : Leaves P (.ok r) ↔ P r.st := .rfl
@[simp] theorem leaves_error (e : Status) : Leaves P (.error e) ↔ True := .rfl
@[simp] theorem leaves_accept (t : State) (ts : List Task) : Leaves P (accept t ts) ↔ P t := .rfl
@[simp] theorem leaves_report (t : State) (c : List Byte) : Leaves P (report t c) ↔ P t := .rfl

@[simp] theorem leaves_field {α : Type} (x : Option α) (k : α → Answer) :
    Leaves P (field x k) ↔ ∀ a, x = some a → Leaves P (k a) := by
  cases x <;> simp [field]

@[simp] theorem leaves_withJob (n : Nat) (k : Job → Answer) :
    Leaves P (withJob s n k) ↔ ∀ j, s.job? n = some j → Leaves P (k j) := by
  unfold withJob
  split <;> simp_all

@[simp] theorem leaves_unlessSaving (k : Answer) :
    Leaves P (unlessSaving s k) ↔ (s.ss.saving = none → Leaves P k) := by
  unfold unlessSaving
  cases s.ss.saving <;> simp

@[simp] theorem leaves_ite (c : Prop) [Decidable c] (a b : Answer) :
    Leaves P (if c then a else b) ↔ (c → Leaves P a) ∧ (¬ c → Leaves P b) := by
  by_cases h : c <;> simp [h]

end

/-- An answer of acceptance leaves the message link as it was. -/
abbrev KeepsLink (s : State) : Answer → Prop := Leaves (fun t => t.mlc = s.mlc)

/-! ### Alerts, lamps and the horn -/

theorem doAlertQuery_link (selector : Nat) : KeepsLink s (doAlertQuery selector s) := by simp [doAlertQuery]

@[simp] theorem ackAll_mlc : (ackAll s).mlc = s.mlc :=
  List.foldlRecOn (motive := fun t : State => t.mlc = s.mlc) _ _ rfl (fun t h e _ => by simpa using h)

theorem doAlertAck_link (entry : Nat) : KeepsLink s (doAlertAck entry s) := by simp [doAlertAck, doAckOne]

theorem doSilence_link : KeepsLink s (doSilence s) := by simp [doSilence]

theorem doLampMode_link (port mode : Nat) : KeepsLink s (doLampMode port mode s) := by simp [doLampMode]

theorem doLampSet_link (port red amber green : Nat) : KeepsLink s (doLampSet port red amber green s) := by
  simp [doLampSet]

/-! ### Spool -/

@[simp] theorem storeData_mlc (i : Image) (isNew : Bool) (data : List Byte) :
    (storeData i isNew data s).mlc = s.mlc := by
  simp only [storeData]; split <;> simp

theorem doSheetData_link (n : Nat) (data : List Byte) : KeepsLink s (doSheetData n data s) := by
  simp only [doSheetData, leaves_withJob]
  intro j _
  cases s.smm.dataImage n <;> simp

@[simp] theorem limitRaised_mlc (n : Nat) : (limitRaised n s).1.mlc = s.mlc := by simp [limitRaised]

@[simp] theorem imageCompleted_mlc (j : Job) : (imageCompleted j s).1.mlc = s.mlc := by
  simp only [imageCompleted]; (repeat' split) <;> simp

theorem doSheetEnd_link (n sides offset : Nat) : KeepsLink s (doSheetEnd n sides offset s) := by
  simp only [doSheetEnd, leaves_withJob]
  intro j _
  cases s.smm.building? n <;> simp [completeImage]

/-! ### Jobs -/

theorem takeRecord_mlc {t : State} {r : Nat} (h : takeRecord s = some (t, r)) : t.mlc = s.mlc := by
  unfold takeRecord at h
  split at h
  · cases h; rfl
  · split at h
    · cases h
    · next n rest _ =>
      obtain ⟨_, _, hx⟩ := Option.map_eq_some_iff.mp h
      cases hx; simp

theorem doJobOpen_link (account dest cls priority copies options colour media size : Nat) :
    KeepsLink s (doJobOpen account dest cls priority copies options colour media size s) := by
  simp only [doJobOpen, leaves_field, leaves_ite]
  intros
  cases h : takeRecord s with
  | none => simp
  | some x => simp [addJob, takeRecord_mlc (t := x.1) (r := x.2) h]

@[simp] theorem dataClosed_mlc (j : Job) : (dataClosed j s).1.mlc = s.mlc := by
  simp only [dataClosed]; (repeat' split) <;> simp

theorem doJobClose_link (n : Nat) : KeepsLink s (doJobClose n s) := by simp [doJobClose]

theorem doJobQuery_link (n : Nat) : KeepsLink s (doJobQuery n s) := by simp [doJobQuery]

theorem doJobList_link (selector number : Nat) : KeepsLink s (doJobList selector number s) := by
  unfold doJobList
  split <;> simp

@[simp] theorem holdEffect_mlc (w : Who) (j : Job) : (holdEffect w j s).1.mlc = s.mlc := by
  simp only [holdEffect]; (repeat' split) <;> simp

theorem doHold_link (w : Who) (n : Nat) : KeepsLink s (doHold w n s) := by simp [doHold]

theorem doRelease_link (w : Who) (n : Nat) : KeepsLink s (doRelease w n s) := by simp [doRelease]

@[simp] theorem cancelEffect_mlc (w : Who) (j : Job) : (cancelEffect w j s).1.mlc = s.mlc := by
  simp only [cancelEffect]; (repeat' split) <;> simp

theorem doCancel_link (w : Who) (n : Nat) : KeepsLink s (doCancel w n s) := by simp [doCancel]

theorem doSuspend_link (w : Who) (n : Nat) : KeepsLink s (doSuspend w n s) := by
  simp only [doSuspend, leaves_withJob]
  intro j _
  cases s.runPort n <;> simp

@[simp] theorem resumeAt_mlc (w : Who) (p : PortNo) (n : Nat) : (resumeAt w p n s).mlc = s.mlc := by
  simp only [resumeAt]; split <;> simp

theorem doResume_link (w : Who) (n : Nat) : KeepsLink s (doResume w n s) := by
  simp only [doResume, leaves_withJob]
  intro j _
  split
  · simp
  · split <;> simp

@[simp] theorem moveJob_mlc (j : Job) (d : Fin 32) : (moveJob j d s).1.mlc = s.mlc := by
  simp only [moveJob]; split <;> simp

theorem doJobMove_link (n dest : Nat) : KeepsLink s (doJobMove n dest s) := by simp [doJobMove]

theorem doJobForget_link (n : Nat) : KeepsLink s (doJobForget n s) := by simp [doJobForget]

/-! ### Destinations -/

theorem doRouteSet_link (mask : Option RouteMask) (dest flags count : Nat) (members label : List Byte) :
    KeepsLink s (doRouteSet mask dest flags count members label s) := by simp [doRouteSet]

theorem doRouteMask_link (mask : Nat) : KeepsLink s (doRouteMask mask s) := by simp [doRouteMask]

theorem doRouteQuery_link (dest : Nat) : KeepsLink s (doRouteQuery dest s) := by simp [doRouteQuery]

/-! ### Ports -/

@[simp] theorem applyPortSet_mlc (p : PortNo) (c : PortSettings) : (applyPortSet p c s).mlc = s.mlc := by
  simp only [applyPortSet]; split <;> simp

theorem doPortSet_link (port window progress wake idle rate slowFloor lampMode : Nat) :
    KeepsLink s (doPortSet port window progress wake idle rate slowFloor lampMode s) := by
  simp [doPortSet, doPartWideSet, doPressPortSet]

theorem doPortQuery_link (port clear : Nat) : KeepsLink s (doPortQuery port clear s) := by
  simp only [doPortQuery, doPartWideQuery, leaves_ite, leaves_field, leaves_ok, leaves_report]
  exact ⟨fun _ _ _ => trivial, fun _ _ _ wipe _ => by cases wipe <;> simp⟩

theorem doPortWake_link (port mode : Nat) : KeepsLink s (doPortWake port mode s) := by simp [doPortWake, applyWake]

theorem doPortPause_link (port : Nat) : KeepsLink s (doPortPause port s) := by simp [doPortPause]

theorem doPortUnpause_link (port : Nat) : KeepsLink s (doPortUnpause port s) := by simp [doPortUnpause]

theorem doPortRecover_link (port : Nat) : KeepsLink s (doPortRecover port s) := by
  simp only [doPortRecover, leaves_field]
  intro p _
  split <;> simp

/-! ### Tariffs and accounts -/

theorem doTariffSet_link (item index value : Nat) : KeepsLink s (doTariffSet item index value s) := by
  simp [doTariffSet]

theorem doTariffQuery_link (which : Nat) : KeepsLink s (doTariffQuery which s) := by simp [doTariffQuery]

theorem doTariffMode_link (mode : Nat) : KeepsLink s (doTariffMode mode s) := by simp [doTariffMode]

@[simp] theorem closeAll_mlc : (closeAll s).1.mlc = s.mlc := rfl

@[simp] theorem cutover_mlc (close : Bool) (source : Nat) : (cutover close source s).1.mlc = s.mlc := by
  simp only [cutover]; split <;> simp

theorem doCutover_link (action flags time : Nat) : KeepsLink s (doCutover action flags time s) := by
  simp only [doCutover, leaves_unlessSaving, leaves_field]
  intro _ close _
  split <;> simp

theorem doAccountSet_link (account flags limit : Nat) : KeepsLink s (doAccountSet account flags limit s) := by
  simp [doAccountSet]

theorem doAccountQuery_link (account : Nat) : KeepsLink s (doAccountQuery account s) := by simp [doAccountQuery]

theorem doAccountClose_link (account : Nat) : KeepsLink s (doAccountClose account s) := by simp [doAccountClose]

/-! ### Panels and the settings store -/

@[simp] theorem unfit_mlc (a : Fin 8) : (unfit a s).mlc = s.mlc := by
  simp only [unfit, makeAbsent, notePresence]; (repeat' split) <;> simp

@[simp] theorem applyPanelSet_mlc (a : Fin 8) (r : Rights) (fitted : Bool) :
    (applyPanelSet a r fitted s).mlc = s.mlc := by
  simp only [applyPanelSet]; (repeat' split) <;> simp

theorem doPanelSet_link (address level fitted : Nat) : KeepsLink s (doPanelSet address level fitted s) := by
  simp [doPanelSet]

theorem doPanelQuery_link (address : Nat) : KeepsLink s (doPanelQuery address s) := by simp [doPanelQuery]

theorem doSave_link : KeepsLink s (doSave s) := by simp [doSave]

/-! ### Every kind -/

/-- The two sides of the message link, its holding area and notice queue and the discarded-message count are those of
`s`: of the link, only the clock, CLOCK_UNSET, RESET_SEEN and the accepted RESTART may differ. -/
structure SameAreas (s t : State) : Prop where
  rx : t.mlc.rx = s.mlc.rx
  holding : t.mlc.holding = s.mlc.holding
  notices : t.mlc.notices = s.mlc.notices
  overrun : t.mlc.overrun = s.mlc.overrun
  tx : t.mlc.tx = s.mlc.tx
  lastReply : t.mlc.lastReply = s.mlc.lastReply
  discarded : t.mlc.discarded = s.mlc.discarded
  defaultsLoaded : t.mlc.defaultsLoaded = s.mlc.defaultsLoaded

theorem sameAreas_of_mlc {t : State} (h : t.mlc = s.mlc) : SameAreas s t := by
  constructor <;> rw [h]

theorem Leaves.mono {P Q : State → Prop} {k : Answer} (hPQ : ∀ t, P t → Q t) (h : Leaves P k) : Leaves Q k := by
  cases k with
  | error e => trivial
  | ok r => exact hPQ _ h

theorem KeepsLink.sameAreas {k : Answer} (h : KeepsLink s k) : Leaves (SameAreas s) k :=
  h.mono fun _ => sameAreas_of_mlc

theorem doStatus_areas : Leaves (SameAreas s) (doStatus s) := by
  simp only [doStatus, leaves_ok]; constructor <;> rfl

theorem doClockSet_areas (value : Nat) : Leaves (SameAreas s) (doClockSet value s) := by
  simp only [doClockSet, leaves_accept]; constructor <;> rfl

theorem doRestart_areas (kind : Nat) : Leaves (SameAreas s) (doRestart kind s) := by
  simp only [doRestart, leaves_unlessSaving]
  intro _
  split
  · constructor <;> rfl
  · constructor <;> rfl
  · trivial

/-- Whatever its kind, a request's owner leaves the areas of the message link alone. -/
theorem takeByKind_areas (kind : Nat) (p : List Byte) (mask : Option RouteMask) (s : State) :
    Leaves (SameAreas s) (takeByKind kind p mask s) := by
  unfold takeByKind
  split
  case h_1 => exact doStatus_areas
  case h_2 => exact KeepsLink.sameAreas (by simp [doIdentify])
  case h_3 => exact doClockSet_areas _
  case h_4 => exact doSave_link.sameAreas
  case h_5 => exact doRestart_areas _
  all_goals apply KeepsLink.sameAreas
  case h_6 => exact doJobOpen_link ..
  case h_7 => exact doSheetData_link ..
  case h_8 => exact doSheetEnd_link ..
  case h_9 => exact doJobClose_link _
  case h_10 => exact doJobQuery_link _
  case h_11 => exact doJobList_link ..
  case h_12 => exact doHold_link ..
  case h_13 => exact doRelease_link ..
  case h_14 => exact doCancel_link ..
  case h_15 => exact doSuspend_link ..
  case h_16 => exact doResume_link ..
  case h_17 => exact doJobMove_link ..
  case h_18 => exact doJobForget_link _
  case h_19 => exact doRouteSet_link ..
  case h_20 => exact doRouteMask_link _
  case h_21 => exact doRouteQuery_link _
  case h_22 => exact doPortSet_link ..
  case h_23 => exact doPortQuery_link ..
  case h_24 => exact doPortWake_link ..
  case h_25 => exact doPortPause_link _
  case h_26 => exact doPortUnpause_link _
  case h_27 => exact doPortRecover_link _
  case h_28 => exact doTariffSet_link ..
  case h_29 => exact doTariffQuery_link _
  case h_30 => exact doTariffMode_link _
  case h_31 => exact doCutover_link ..
  case h_32 => exact doAccountSet_link ..
  case h_33 => exact doAccountQuery_link _
  case h_34 => exact doAccountClose_link _
  case h_35 => exact doAlertQuery_link _
  case h_36 => exact doAlertAck_link _
  case h_37 => exact doSilence_link
  case h_38 => exact doLampMode_link ..
  case h_39 => exact doLampSet_link ..
  case h_40 => exact doPanelSet_link ..
  case h_41 => exact doPanelQuery_link _
  case h_42 => trivial

end Sys2Proof.Machine
end

section
/-! PROOF. The admission of a complete frame (R3 to R5, R10): discarded by a full holding area, only admitted while a
RESTART waits, else taken and answered. -/

namespace Sys2Proof.Machine

variable {s : State} {f : Frame} {h : Handler}

theorem present_full (hfull : 4 ≤ s.mlc.holding.length) : present f h s = (countDiscard s, []) :=
  if_pos hfull

theorem present_waiting (hroom : s.mlc.holding.length < 4) (hr : s.mlc.restart ≠ none) :
    present f h s = (admitOnly f s, []) := by
  have hc : ¬ holdingCapacity ≤ s.mlc.holding.length := Nat.not_le.mpr hroom
  rw [present, if_neg hc, if_pos (Option.isSome_iff_ne_none.mpr hr)]

theorem present_takes (ht : s.takes) : present f h s = takeRequest f h s := by
  obtain ⟨hroom, hr⟩ := ht
  rw [present, if_neg (Nat.not_le.mpr hroom), if_neg (by simp [hr])]

/-- An answer adds one reply, that of its request, at the tail. -/
theorem answer_replies (status : Status) (contents : List Byte) :
    (answer f status contents s).replies = s.replies ++ [(f, some (replyFrame f status contents))] := by
  simp [answer, State.replies]

/-- A request that is taken is answered, whether the MLC refuses it, its owner refuses it or its owner accepts it (R5,
R6). -/
theorem takeRequest_replies (hh : ∀ mask t, Leaves (SameAreas t) (h mask t)) :
    ∃ reply, (takeRequest f h s).1.replies = s.replies ++ [(f, some reply)] := by
  unfold takeRequest
  dsimp only
  split
  · exact ⟨_, answer_replies ..⟩
  · have hleaves := hh s.dt.routeMask (consumeMask s)
    split
    · exact ⟨_, answer_replies ..⟩
    · next r heq =>
      rw [heq, leaves_ok] at hleaves
      have hsame : r.st.replies = s.replies := congrArg (List.map _) hleaves.holding
      exact ⟨_, by rw [answer_replies, hsame]⟩

/-- The end of the act changes no reply in the holding area. -/
theorem replies_closeAct (r : State × List Task) : (closeAct r).replies = r.1.replies :=
  closeAct_replies r.2

/-- Settles O7: the frame's bytes present it in one act, and each clause is one branch of its admission. -/
theorem admissionOrDiscard : Obligations.AdmissionOrDiscard := by
  unfold Obligations.AdmissionOrDiscard
  intro f s hL hrx
  have hexec := exec_hostFrameReceived_frameBytes (s := s) hL hrx
  refine ⟨fun hroom hr => ⟨_, hexec, ?taken⟩, fun hroom hr => ?admitted, fun hfull => ?discarded⟩
  case taken =>
    have ht : (openAct s).takes := ⟨hroom, hr⟩
    rw [hostFrame, replies_closeAct, present_takes ht]
    exact takeRequest_replies (s := openAct s) (takeByKind_areas _ _)
  case admitted =>
    rw [Ends, hexec, hostFrame, present_waiting (s := openAct s) hroom hr, closeAct_nil]
    rfl
  case discarded =>
    rw [Ends, hexec, hostFrame, present_full (s := openAct s) hfull, closeAct_nil]
    rfl

end Sys2Proof.Machine
end

section
/-! PROOF. The sheet sequence (R38, R39): the dispatch limit as images complete and data closes, and the place of a
position below it. -/

namespace Sys2Proof.Machine

variable {j : Job} {p n : Nat}

/-! ### The dispatch limit (R39) -/

theorem limit_of_total {total : Nat} (hc : j.dataClosed = true) (ht : j.total = some total) : j.limit = total := by
  simp [Job.limit, hc, ht]

theorem limit_of_collated (ho : j.dataClosed = false) (hc : j.collate = true) : j.limit = j.complete := by
  simp [Job.limit, ho, hc]

theorem limit_of_uncollated (ho : j.dataClosed = false) (hc : j.collate = false) : j.limit = j.copies * j.complete := by
  simp [Job.limit, ho, hc]

/-- Closing the data fixes the limit at every copy of every image (R37). -/
@[simp] theorem closed_limit (j : Job) : j.closed.limit = j.copies * j.complete := rfl

/-- Closing the data never lowers the limit. -/
theorem limit_le_closed_limit (ho : j.dataClosed = false) (hpos : 0 < j.copies) : j.limit ≤ j.closed.limit := by
  rw [closed_limit]
  rcases Bool.eq_false_or_eq_true j.collate with hc | hc
  · rw [limit_of_collated ho hc]
    exact Nat.le_mul_of_pos_left _ hpos
  · rw [limit_of_uncollated ho hc]

/-- More complete images never lower the limit. -/
theorem limit_le_of_complete_le (ho : j.dataClosed = false) (hn : j.complete ≤ n) :
    j.limit ≤ ({ j with complete := n }).limit := by
  rcases Bool.eq_false_or_eq_true j.collate with hc | hc
  · rw [limit_of_collated ho hc, limit_of_collated (j := { j with complete := n }) ho hc]
    exact hn
  · rw [limit_of_uncollated ho hc, limit_of_uncollated (j := { j with complete := n }) ho hc]
    exact Nat.mul_le_mul_left _ hn

/-- With one copy the two orders have one limit. -/
theorem limit_of_one_copy (ho : j.dataClosed = false) (h1 : j.copies = 1) : j.limit = j.complete := by
  rcases Bool.eq_false_or_eq_true j.collate with hc | hc
  · exact limit_of_collated ho hc
  · rw [limit_of_uncollated ho hc, h1, Nat.one_mul]

/-! ### The place of a position (R38) -/

theorem place_of_collated (hc : j.collate = true) (p : Nat) : j.place p = (p % j.complete, p / j.complete) := by
  simp [Job.place, hc]

theorem place_of_uncollated (hc : j.collate = false) (p : Nat) : j.place p = (p / j.copies, p % j.copies) := by
  simp [Job.place, hc]

/-- Below the complete-image count a collated job is still at the first copy of each image. -/
theorem place_of_collated_lt (hc : j.collate = true) (hp : p < j.complete) : j.place p = (p, 0) := by
  rw [place_of_collated hc, Nat.mod_eq_of_lt hp, Nat.div_eq_of_lt hp]

@[simp] theorem closed_place (j : Job) (p : Nat) : j.closed.place p = j.place p := rfl

/-- A position below the limit of open data names a complete image and a wanted copy. -/
theorem place_lt (hcopies : 0 < j.copies) (ho : j.dataClosed = false) (hp : p < j.limit) :
    (j.place p).1 < j.complete ∧ (j.place p).2 < j.copies := by
  rcases Bool.eq_false_or_eq_true j.collate with hc | hc
  · rw [limit_of_collated ho hc] at hp
    rw [place_of_collated_lt hc hp]
    exact ⟨hp, hcopies⟩
  · rw [limit_of_uncollated ho hc] at hp
    rw [place_of_uncollated hc]
    exact ⟨Nat.div_lt_of_lt_mul hp, Nat.mod_lt _ hcopies⟩

/-- A position below the limit of open data keeps its place as more images complete. -/
theorem place_of_complete_le (ho : j.dataClosed = false) (hp : p < j.limit) (hn : j.complete ≤ n) :
    ({ j with complete := n }).place p = j.place p := by
  rcases Bool.eq_false_or_eq_true j.collate with hc | hc
  · rw [limit_of_collated ho hc] at hp
    rw [place_of_collated_lt hc hp]
    exact place_of_collated_lt (j := { j with complete := n }) hc (Nat.lt_of_lt_of_le hp hn)
  · rw [place_of_uncollated hc, place_of_uncollated (j := { j with complete := n }) hc]

/-- A position is its divisor times the quotient plus the remainder, so no two have one place. -/
theorem place_injective (j : Job) : Function.Injective j.place := by
  have hdiv {d p q : Nat} (hquot : p / d = q / d) (hrem : p % d = q % d) : p = q := by
    rw [← Nat.div_add_mod p d, hquot, hrem, Nat.div_add_mod]
  intro p q h
  rcases Bool.eq_false_or_eq_true j.collate with hc | hc
  · rw [place_of_collated hc, place_of_collated hc, Prod.mk.injEq] at h
    exact hdiv h.2 h.1
  · rw [place_of_uncollated hc, place_of_uncollated hc, Prod.mk.injEq] at h
    exact hdiv h.1 h.2

/-- Settles O29: the two formulas by the order of the job, then what holds below the limit of open data. -/
theorem sequenceIsStable : Obligations.SequenceIsStable := by
  unfold Obligations.SequenceIsStable
  refine ⟨fun j p => ⟨fun hc => place_of_collated hc p, fun hc => place_of_uncollated hc p,
    fun total => limit_of_total, limit_of_collated, limit_of_uncollated, ?monotone, ?oneCopy⟩, ?below⟩
  case monotone => exact fun ho hpos => ⟨limit_le_closed_limit ho hpos, fun n hn => limit_le_of_complete_le ho hn⟩
  case oneCopy => exact fun ho h1 => ⟨limit_of_one_copy ho h1, by rw [closed_limit, h1, Nat.one_mul]⟩
  case below =>
    intro j p hcopies _ ho hp
    obtain ⟨himage, hcopy⟩ := place_lt hcopies ho hp
    refine ⟨himage, hcopy, fun hc => ?_, fun n hn => ?_, ?_, closed_place j p, fun q _ h => place_injective j h⟩
    · exact place_of_collated_lt hc (limit_of_collated ho hc ▸ hp)
    · exact ⟨place_of_complete_le ho hp hn, Nat.lt_of_lt_of_le hp (limit_le_of_complete_le ho hn)⟩
    · exact Nat.lt_of_lt_of_le hp (limit_le_closed_limit ho hcopies)

end Sys2Proof.Machine
end

section
/-! PROOF. The requests that change nothing or free one record (R5, R52 to R54): an answer that nothing follows from,
and what JOB_FORGET, JOB_QUERY and JOB_LIST answer. -/

namespace Sys2Proof.Machine

variable {s : State}

/-! ### An answer that nothing follows from (R5, R6) -/

/-- The MLC passes a request whose tag is not 0 and whose length its kind accepts. -/
theorem mlcCheck_eq_none {kind tag : Byte} {length lo hi : Nat} (htag : tag ≠ 0)
    (hk : kindLengths kind.toNat = some (lo, hi)) (hl : lo ≤ length ∧ length ≤ hi) :
    mlcCheck kind tag length = none := by
  simp only [mlcCheck, if_neg htag, hk, if_pos hl]

@[simp] theorem halfBytes_length (x : Half) : (halfBytes x).length = 2 := rfl

section Taken

variable {i : Instr} {kind : Nat} {tag : Byte} {payload : List Byte} {h : Handler}
  (hexec : exec i s = .next (hostRequest kind tag payload h s)) (ht : s.takes) (hp : payload.length ≤ maxPayload)
  (hm : mlcCheck (BitVec.ofNat 8 kind) tag payload.length = none)

include hexec ht hp hm

/-- A request taken that its block accepts, bringing about no task. -/
theorem answers_of_ok {contents : List Byte} {w : State}
    (hh : h s.dt.routeMask s.taking = .ok { contents := contents, st := w }) :
    Answers i s { kind := BitVec.ofNat 8 kind, tag := tag, payload := payload } .ok contents w := by
  rw [Answers, Ends, hexec, hostRequest_ok ht hp hm hh, closeAct_nil]

/-- A request taken that its block refuses. -/
theorem answers_of_error {e : Status} (hh : h s.dt.routeMask s.taking = .error e) :
    Answers i s { kind := BitVec.ofNat 8 kind, tag := tag, payload := payload } e [] s.taking := by
  rw [Answers, Ends, hexec, hostRequest_error ht hp hm hh, closeAct_nil]

end Taken

/-! ### What a request names (R32, R54) -/

theorem withJob_of_none {n : Nat} (h : s.job? n = none) (k : Job → Answer) : withJob s n k = .error .noJob := by
  simp [withJob, h]

theorem withJob_of_some {n : Nat} {j : Job} (h : s.job? n = some j) (k : Job → Answer) : withJob s n k = k j := by
  simp [withJob, h]

@[simp] theorem destNo?_val (d : Fin 32) : destNo? d.val = some d := by simp [destNo?]

theorem destNo?_eq_none {n : Nat} (h : 31 < n) : destNo? n = none := dif_neg (by omega)

@[simp] theorem portNo?_val (p : PortNo) : portNo? p.val = some p := by simp [portNo?]

theorem portNo?_eq_none {n : Nat} (h : 15 < n) : portNo? n = none := dif_neg (by omega)

/-! ### Job numbers (R31, R32) -/

theorem job?_eq_none {n : Nat} (h : ∀ j ∈ s.jt.jobs, j.num ≠ n) : s.job? n = none := by
  unfold State.job?
  split
  · rfl
  · exact List.find?_eq_none.mpr fun j hj => by simpa using h j hj

/-- Where the numbers in use are distinct, a record is the one its number names. -/
theorem job?_of_mem {j : Job} (hN : JobNumbers s) (hj : j ∈ s.jt.jobs) : s.job? j.num = some j := by
  obtain ⟨hdistinct, -, hrange, -⟩ := hN
  have hpos : j.num ≠ 0 := Nat.one_le_iff_ne_zero.mp (hrange j hj).1
  obtain ⟨k, hk⟩ := Option.isSome_iff_exists.mp
    (List.find?_isSome.mpr ⟨j, hj, beq_self_eq_true j.num⟩ : (s.jt.jobs.find? (·.num == j.num)).isSome)
  have hnum : k.num = j.num := by simpa using List.find?_some hk
  have heq : k = j := List.inj_on_of_nodup_map hdistinct (List.mem_of_find?_eq_some hk) hj hnum
  rw [State.job?, if_neg hpos, hk, heq]

theorem job?_freeRecord (n : Nat) : (freeRecord n s).job? n = none :=
  job?_eq_none (by simp [freeRecord])

/-! ### JOB_FORGET (R52) -/

theorem exec_jobForget (tag : Byte) (job : Half) : exec (.jobForget tag job) s
    = .next (hostRequest 0x14 tag (halfBytes job) (fun _ => doJobForget job.toNat) s) := rfl

theorem doJobForget_finished {n : Nat} {j : Job} (hj : s.job? n = some j)
    (h : j.state = .done ∨ j.state = .cancelled) : doJobForget n s = .ok { st := freeRecord n s } := by
  rw [doJobForget, withJob_of_some hj, if_pos h, accept]

theorem doJobForget_unfinished {n : Nat} {j : Job} (hj : s.job? n = some j) (hd : j.state ≠ .done)
    (hc : j.state ≠ .cancelled) : doJobForget n s = .error .wrongState := by
  rw [doJobForget, withJob_of_some hj, if_neg (not_or.mpr ⟨hd, hc⟩)]

/-- Settles O26: distinct numbers make the record found the one meant, and its state decides. -/
theorem jobForgetForgets : Obligations.JobForgetForgets := by
  unfold Obligations.JobForgetForgets
  intro tag job s htag ht hN
  have hm : mlcCheck 0x14 tag (halfBytes job).length = none :=
    mlcCheck_eq_none htag rfl ⟨Nat.le_refl 2, Nat.le_refl 2⟩
  have hp : (halfBytes job).length ≤ maxPayload := by simp [maxPayload]
  refine ⟨fun hnone => ?noJob, fun j hj hnum => ?held⟩
  case noJob =>
    have hjob : s.taking.job? job.toNat = none := by rw [job?_taking, job?_eq_none hnone]
    exact answers_of_error (exec_jobForget ..) ht hp hm (withJob_of_none hjob _)
  case held =>
    have hjob : s.taking.job? job.toNat = some j := by rw [job?_taking, ← hnum, job?_of_mem hN hj]
    refine ⟨fun hd hc => ?wrongState, fun hfin => ⟨?forgets, ?gone⟩⟩
    case wrongState => exact answers_of_error (exec_jobForget ..) ht hp hm (doJobForget_unfinished hjob hd hc)
    case forgets =>
      exact answers_of_ok (exec_jobForget ..) ht hp hm (doJobForget_finished hjob hfin)
    case gone => exact job?_freeRecord (s := s.taking) job.toNat

/-! ### JOB_QUERY (R53) -/

theorem exec_jobQuery (tag : Byte) (job : Half) : exec (.jobQuery tag job) s
    = .next (hostRequest 0x0C tag (halfBytes job) (fun _ => doJobQuery job.toNat) s) := rfl

theorem doJobQuery_of_some {n : Nat} {j : Job} (hj : s.job? n = some j) : doJobQuery n s = report s j.report :=
  withJob_of_some hj _

@[simp] theorem be8_length (n : Nat) : (be8 n).length = 1 := rfl
@[simp] theorem be32_length (n : Nat) : (be32 n).length = 4 := rfl
@[simp] theorem be48_length (n : Nat) : (be48 n).length = 6 := rfl

/-- Table 3-5 has 70 bytes. -/
theorem report_length (j : Job) : j.report.length = 70 := by
  unfold Job.report
  simp

/-- A flag byte, here and below, is the sum of its flags' weights, bit 0 first. -/
theorem options_eq (j : Job) : j.options = bit j.collate + 2 * bit j.earlyStart + 4 * bit j.duplex := by
  simp [Job.options, flagByte]; omega

theorem holdsByte_eq (h : Holds) : h.byte = bit h.host + 2 * bit h.panel + 4 * bit h.credit := by
  simp [Holds.byte, flagByte]; omega

theorem presence_eq (j : Job) : j.presence = bit j.dataClosed + 2 * bit j.pinned + 4 * bit j.bound.isSome
    + 8 * bit j.firstDispatch.isSome + 16 * bit j.finished.isSome + 32 * bit j.queueEntry.isSome
    + 64 * bit j.purpose.isSome := by
  simp [Job.presence, flagByte]; omega

/-- Settles O27: the contents of Table 3-5 are the report's bytes, flag byte by flag byte. -/
theorem jobQueryReports : Obligations.JobQueryReports := by
  unfold Obligations.JobQueryReports
  intro tag job s htag ht
  have hm : mlcCheck 0x0C tag (halfBytes job).length = none :=
    mlcCheck_eq_none htag rfl ⟨Nat.le_refl 2, Nat.le_refl 2⟩
  have hp : (halfBytes job).length ≤ maxPayload := by simp [maxPayload]
  refine ⟨fun hnone => ?noJob, fun j hj => ?reports⟩
  case noJob =>
    exact answers_of_error (exec_jobQuery ..) ht hp hm (withJob_of_none (by rw [job?_taking, hnone]) _)
  case reports =>
    intro number flag contents
    have hcontents : j.report = contents := by
      -- `unfold`: the equation that `rw` and `simp` make of `Job.report` is too costly to check.
      unfold Job.report
      rw [options_eq, holdsByte_eq, presence_eq]
      cases hpurpose : j.purpose <;> cases hbound : j.bound <;>
        simp [contents, hpurpose, hbound, be8, bit, number, flag]
    rw [← hcontents]
    exact ⟨report_length j,
      answers_of_ok (exec_jobQuery ..) ht hp hm (doJobQuery_of_some (by rw [job?_taking, hj]))⟩

/-! ### JOB_LIST (R54) -/

theorem exec_jobList (tag selector number : Byte) : exec (.jobList tag selector number) s
    = .next (hostRequest 0x0D tag [selector, number] (fun _ => doJobList selector.toNat number.toNat) s) := rfl

/-- A count and the numbers it counts. -/
theorem jobNumbers_length (l : List Nat) : (jobNumbers l).length = 2 + 2 * l.length := by
  simp [jobNumbers, Nat.mul_comm]

theorem doJobList_queue (d : Fin 32) : doJobList 0 d.val s = report s (jobNumbers (s.queue d)) := by
  simp [doJobList, field]

theorem doJobList_pinned (p : PortNo) : doJobList 1 p.val s = report s (jobNumbers (s.port p).pinnedQ) := by
  simp [doJobList, field]

theorem doJobList_finished : doJobList 2 0 s = report s (jobNumbers s.jt.finished) := rfl

/-- The selectors and numbers that name no collection. -/
theorem doJobList_badField {selector number : Nat} (h : (selector = 0 ∧ 31 < number) ∨ (selector = 1 ∧ 15 < number)
    ∨ (selector = 2 ∧ number ≠ 0) ∨ 2 < selector) : doJobList selector number s = .error .badField := by
  rcases h with ⟨rfl, h⟩ | ⟨rfl, h⟩ | ⟨rfl, h⟩ | h
  · simp [doJobList, field, destNo?_eq_none h]
  · simp [doJobList, field, portNo?_eq_none h]
  · simp [doJobList, h]
  · obtain ⟨k, rfl⟩ := Nat.exists_eq_add_of_lt h
    rw [show 2 + k + 1 = k + 3 by omega]
    rfl

/-- Settles O28: each selector with its range of numbers is one equation of `doJobList`. -/
theorem jobListReports : Obligations.JobListReports := by
  unfold Obligations.JobListReports
  intro tag selector number s htag ht i f lists
  have hm : mlcCheck 0x0D tag [selector, number].length = none :=
    mlcCheck_eq_none htag rfl ⟨Nat.le_refl 2, Nat.le_refl 2⟩
  have hp : [selector, number].length ≤ maxPayload := by simp [maxPayload]
  have hlists {l : List Nat} (h : doJobList selector.toNat number.toNat s.taking = report s.taking (jobNumbers l)) :
      lists l := ⟨answers_of_ok (exec_jobList ..) ht hp hm h, jobNumbers_length l⟩
  refine ⟨fun d hsel hnum => hlists ?queue, fun p hsel hnum => hlists ?pinned, fun hsel hnum => hlists ?finished,
    fun hbad => answers_of_error (exec_jobList ..) ht hp hm (doJobList_badField ?bad)⟩
  case queue => subst hsel; rw [hnum]; simpa using doJobList_queue (s := s.taking) d
  case pinned => subst hsel; rw [hnum]; simpa using doJobList_pinned (s := s.taking) p
  case finished => subst hsel hnum; simpa using doJobList_finished (s := s.taking)
  case bad => simpa [← BitVec.toNat_inj] using hbad

end Sys2Proof.Machine
end

section
/-! PROOF. PORT_QUERY (R29, R108): the bytes of Table 6-4 and Table 1-10, and what it answers. -/

namespace Sys2Proof.Machine

variable {s : State}

/-! ### The bytes of a port report (Table 6-4, Table 1-10) -/

theorem conditionByte_eq (x : Port) : x.conditionByte = bit x.ready + 2 * bit x.jammed + 4 * bit x.doorOpen := by
  simp [Port.conditionByte, flagByte]; omega

theorem portFlags_eq (x : Port) : x.flags = bit x.forceOff + 2 * bit x.caps.isSome + 4 * bit x.conds.slow
    + 8 * bit x.usable := by
  simp [Port.flags, flagByte]; omega

theorem flagByte_pair (a b : Bool) : flagByte [a, b] = bit a + 2 * bit b := by
  simp [flagByte]

/-- A capability record, present or absent, takes four bytes. -/
@[simp] theorem capsReport_length (c : Option Caps) : (capsReport c).length = 4 := by
  cases c <;> rfl

/-- The slots take nine bytes, whatever they hold. -/
@[simp] theorem slotsReport_length (x : Port) : (slotsReport x).length = 9 := by
  simp [slotsReport]

/-- One record of Table 1-10, byte by byte. -/
theorem flightReport_eq : Flight.report = fun r => [r.tag, BitVec.ofNat 8 r.stage.code] ++ be16 r.job ++ be32 r.pos
    ++ be16 r.index ++ be16 r.copy ++ [BitVec.ofNat 8 r.sides] ++ be32 r.charge := rfl

@[simp] theorem flightReport_length (r : Flight) : r.report.length = 17 := by
  simp [flightReport_eq]

theorem inFlightReport_length (l : List Flight) : (inFlightReport l).length = 1 + 17 * l.length := by
  simp [inFlightReport, Nat.mul_comm]

theorem portReport_length (p : PortNo) (x : Port) (c : PortSettings) :
    (portReport p x c).length = 49 + 17 * x.inFlight.length := by
  -- `unfold`: the equation that `rw` and `simp` make of `portReport` is too costly to check.
  unfold portReport
  simp [inFlightReport_length]
  omega

/-! ### PORT_QUERY (R29, R108) -/

theorem exec_portQuery (tag port clear : Byte) : exec (.portQuery tag port clear) s
    = .next (hostRequest 0x21 tag [port, clear] (fun _ => doPortQuery port.toNat clear.toNat) s) := rfl

theorem exec_portQueryPartWide (tag clear : Byte) : exec (.portQueryPartWide tag clear) s
    = .next (hostRequest 0x21 tag [16, clear] (fun _ => doPartWideQuery clear.toNat) s) := rfl

theorem flag?_eq_none {n : Nat} (h : 1 < n) : flag? n = none := by
  obtain ⟨k, rfl⟩ := Nat.exists_eq_add_of_lt h
  rw [show 1 + k + 1 = k + 2 by omega]
  rfl

theorem doPortQuery_partWide (clear : Nat) : doPortQuery 16 clear = doPartWideQuery clear :=
  funext fun _ => if_pos rfl

theorem doPortQuery_badPort {port clear : Nat} (h : 16 < port) : doPortQuery port clear s = .error .badField := by
  rw [doPortQuery, if_neg (by omega), portNo?_eq_none (by omega), field]

/-- A press port is found under its number, and the clear byte decides the rest. -/
theorem doPortQuery_pressPort (p : PortNo) (clear : Nat) : doPortQuery p.val clear s
    = field (flag? clear) fun wipe => .ok
        { contents := portReport p (s.port p) (s.portCfg p)
          st := if wipe then s.modPort p (fun x => { x with meters := {} }) else s } := by
  rw [doPortQuery, if_neg (by omega), portNo?_val, field]

theorem doPortQuery_keeps (p : PortNo) :
    doPortQuery p.val 0 s = report s (portReport p (s.port p) (s.portCfg p)) :=
  doPortQuery_pressPort p 0

/-- The report is composed from the state before the meters are cleared. -/
theorem doPortQuery_clears (p : PortNo) : doPortQuery p.val 1 s
    = .ok { contents := portReport p (s.port p) (s.portCfg p)
            st := s.setPort p { s.port p with meters := {} } } :=
  doPortQuery_pressPort p 1

theorem doPortQuery_badFlag (p : PortNo) {clear : Nat} (h : 1 < clear) :
    doPortQuery p.val clear s = .error .badField := by
  rw [doPortQuery_pressPort, flag?_eq_none h, field]

/-- Settles O40: the report's bytes are the fields of the tables, and the port byte, then the clear byte, picks the
branch of `doPortQuery` that answers. -/
theorem portQueryReports : Obligations.PortQueryReports := by
  unfold Obligations.PortQueryReports
  intro tag port clear s htag ht i f
  have hm : mlcCheck 0x21 tag [port, clear].length = none :=
    mlcCheck_eq_none htag rfl ⟨Nat.le_refl 2, Nat.le_refl 2⟩
  have hp : [port, clear].length ≤ maxPayload := by simp [maxPayload]
  refine ⟨fun hport => ?partWide, fun hport => ?badPort, fun p hport => ?pressPort⟩
  case partWide =>
    subst hport
    rw [exec_portQuery, exec_portQueryPartWide, show (16 : Byte).toNat = 16 from rfl, doPortQuery_partWide]
  case badPort => exact answers_of_error (exec_portQuery ..) ht hp hm (doPortQuery_badPort hport)
  case pressPort =>
    intro x c number flag contents
    have hcontents : portReport p x c = contents := by
      unfold portReport slotsReport inFlightReport
      rw [conditionByte_eq, portFlags_eq, flagByte_pair, flightReport_eq]
      cases hcaps : x.caps <;> cases hsusp : x.susp <;>
        simp [contents, hcaps, hsusp, capsReport, be8, bit, number, flag]
    rw [← hcontents]
    refine ⟨portReport_length p x c, fun hclear => ?keeps, fun hclear => ?clears, fun hclear => ?badFlag⟩
    case keeps =>
      have h := doPortQuery_keeps (s := s.taking) p
      rw [port_taking, portCfg_taking, ← hport, ← hclear] at h
      exact answers_of_ok (exec_portQuery ..) ht hp hm h
    case clears =>
      have h := doPortQuery_clears (s := s.taking) p
      rw [port_taking, portCfg_taking, ← hport, ← hclear] at h
      exact answers_of_ok (exec_portQuery ..) ht hp hm h
    case badFlag =>
      have h := doPortQuery_badFlag (s := s.taking) p hclear
      rw [← hport] at h
      exact answers_of_error (exec_portQuery ..) ht hp hm h

end Sys2Proof.Machine
end

section
/-! PROOF. The sheet charge (R122, R131 to R133): what the consistency check asks of a sheet, the tier of a count, and
the charge with its bound. -/

namespace Sys2Proof.Machine

variable {t : Tariff} {a : Account} {n sides : Nat} {c : Colour} {m z : Fin 8}

/-! ### The consistency check (R122) -/

/-- The check passes when none of its three findings is made, in whatever order it looks. -/
theorem check_eq_zero_iff (t : Tariff) : t.check = 0 ↔
    t.t1 < t.t2 ∧ t.t2 < t.t3 ∧ (∀ k : Fin 4, t.discount[k] ≤ 90) ∧ ∀ k : Fin 8, t.size[k] ≠ 0 := by
  have hdiscount : t.discount.toList.any (fun p => decide (90 < p)) = false ↔ ∀ k : Fin 4, t.discount[k] ≤ 90 := by
    simp [Vector.any_eq_false, Fin.forall_iff]
  have hsize : t.size.toList.any (fun f => f == 0) = false ↔ ∀ k : Fin 8, t.size[k] ≠ 0 := by
    simp [Vector.any_eq_false, Fin.forall_iff]
  rw [← hdiscount, ← hsize, ← and_assoc, Tariff.check]
  split_ifs <;> simp_all

/-! ### The tier (R132) -/

theorem tierFor_fixed (h : a.fixed = true) : t.tierFor a n = 0 := by
  simp [Tariff.tierFor, h]

theorem tierFor_not_fixed (h : a.fixed = false) : t.tierFor a n = t.tier n := by
  simp [Tariff.tierFor, h]

/-- Each tier by the thresholds its count has reached. -/
theorem tier_eq {k : Fin 4} (h : (k = 0 ∧ n < t.t1) ∨ (k = 1 ∧ t.t1 ≤ n ∧ n < t.t2)
    ∨ (k = 2 ∧ t.t1 ≤ n ∧ t.t2 ≤ n ∧ n < t.t3) ∨ (k = 3 ∧ t.t1 ≤ n ∧ t.t2 ≤ n ∧ t.t3 ≤ n)) : t.tier n = k := by
  unfold Tariff.tier
  rcases h with ⟨rfl, h1⟩ | ⟨rfl, h1, h2⟩ | ⟨rfl, h1, h2, h3⟩ | ⟨rfl, h1, h2, h3⟩
  · rw [if_pos h1]
  · rw [if_neg (Nat.not_lt.mpr h1), if_pos h2]
  · rw [if_neg (Nat.not_lt.mpr h1), if_neg (Nat.not_lt.mpr h2), if_pos h3]
  · rw [if_neg (Nat.not_lt.mpr h1), if_neg (Nat.not_lt.mpr h2), if_neg (Nat.not_lt.mpr h3)]

/-! ### The gross amount and the charge (R131, R133) -/

theorem baseIndex_val (c : Colour) (m : Fin 8) : (baseIndex c m).val = (match c with
    | .mono => 0
    | .color => 8) + m.val := by
  cases c <;> simp [baseIndex]

theorem gross_eq (t : Tariff) (c : Colour) (m z : Fin 8) (sides : Nat) :
    t.gross c m z sides = t.base[baseIndex c m] * t.size[z] * (16 + (sides - 1) * t.second) := rfl

theorem charge_eq (t : Tariff) (a : Account) (n : Nat) (c : Colour) (m z : Fin 8) (sides : Nat) :
    t.charge a n c m z sides = if a.exempt then 0
      else (t.gross c m z sides * (100 - t.discount[t.tierFor a n]) + 12800) / 25600 := rfl

/-- The largest gross amount: the largest base price, size factor and side factor of Table 8-1. -/
theorem gross_le (hbase : ∀ k : Fin 16, t.base[k] ≤ 65535) (hsize : ∀ k : Fin 8, t.size[k] ≤ 255)
    (hsecond : t.second ≤ 16) (hsides : sides ≤ 2) : t.gross c m z sides ≤ 65535 * 255 * 32 := by
  have hextra : (sides - 1) * t.second ≤ 1 * 16 := Nat.mul_le_mul (by omega) hsecond
  rw [gross_eq]
  exact Nat.mul_le_mul (Nat.mul_le_mul (hbase _) (hsize _)) (by omega)

/-- The largest charge is that of the largest gross amount with no discount. -/
theorem charge_le (h : t.gross c m z sides ≤ 65535 * 255 * 32) : t.charge a n c m z sides ≤ 2088928 := by
  have hnet := Nat.mul_le_mul h (Nat.sub_le 100 t.discount[t.tierFor a n])
  rw [charge_eq]
  split
  · exact Nat.zero_le _
  · omega

/-- Settles O38: the tier and the base price that the hypotheses single out are the ones the charge takes, and the
bound is that of the gross amount. -/
theorem sheetChargeFormula : Obligations.SheetChargeFormula := by
  unfold Obligations.SheetChargeFormula
  refine fun t a n c m z sides => ⟨fun k hk tier hfixed hcount => ?formula,
    fun _ hbase hsize hsecond hsides => charge_le (gross_le hbase hsize hsecond hsides), check_eq_zero_iff t⟩
  case formula =>
    have hindex : baseIndex c m = k := Fin.ext ((baseIndex_val c m).trans hk.symm)
    have htier : t.tierFor a n = tier := by
      cases h : a.fixed with
      | true => rw [tierFor_fixed h, hfixed h]
      | false => rw [tierFor_not_fixed h, tier_eq (hcount h)]
    subst hindex htier
    rw [charge_eq, gross_eq]

end Sys2Proof.Machine
end

section
/-! PROOF. The tariff requests (R123 to R125): the figure that an item and index name, and what TARIFF_SET, TARIFF_MODE
and TARIFF_QUERY answer. -/

namespace Sys2Proof.Machine

variable {s : State} {t : Tariff}

theorem unlessSaving_of_none (h : s.ss.saving = none) (k : Answer) : unlessSaving s k = k := by
  simp [unlessSaving, h]

@[simp] theorem flag?_bit (b : Bool) : flag? (bit b) = some b := by
  cases b <;> rfl

/-! ### TARIFF_QUERY (R125) -/

theorem exec_tariffQuery (tag which : Byte) : exec (.tariffQuery tag which) s
    = .next (hostRequest 0x29 tag [which] (fun _ => doTariffQuery which.toNat) s) := rfl

theorem flatMap_be8 (l : List Nat) : l.flatMap be8 = l.map (BitVec.ofNat 8) :=
  List.flatMap_pure_eq_map ..

/-- The figures of a sheet in the order of Table 8-1, then its consistency result. -/
theorem tariffReport_eq (t : Tariff) : t.report = t.base.toList.flatMap be16
    ++ t.size.toList.map (BitVec.ofNat 8) ++ be8 t.second ++ be32 t.t1 ++ be32 t.t2 ++ be32 t.t3
    ++ t.discount.toList.map (BitVec.ofNat 8) ++ be8 t.check := by
  rw [Tariff.report, flatMap_be8, flatMap_be8]

theorem be8_bit (b : Bool) : be8 (bit b) = [if b then 1 else 0] := by
  cases b <;> rfl

theorem scheduleReport_eq (x : Option Schedule) : scheduleReport x = (match x with
    | none => [0, 0, 0, 0, 0, 0]
    | some x => [1] ++ be32 x.time ++ [if x.close then 1 else 0]) := by
  cases x with
  | none => rfl
  | some x => rw [scheduleReport, be8_bit]; rfl

/-- The figures of a sheet and its consistency result take 58 bytes. -/
@[simp] theorem tariffReport_length (t : Tariff) : t.report.length = 58 := by
  simp [Tariff.report, flatMap_be8, List.length_flatMap]

@[simp] theorem scheduleReport_length (x : Option Schedule) : (scheduleReport x).length = 6 := by
  cases x <;> rfl

/-- What TARIFF_QUERY reports of sheet `t`. -/
def tariffContents (s : State) (t : Tariff) : List Byte :=
  t.report ++ be8 (bit s.cfg.direct) ++ scheduleReport s.cfg.schedule

theorem tariffContents_length (s : State) (t : Tariff) : (tariffContents s t).length = 65 := by
  simp [tariffContents]

/-- The which byte is 0 for the ACTIVE sheet and 1 for the STAGED one. -/
theorem doTariffQuery_sheet {which : Byte} (h : which.toNat ≤ 1) : doTariffQuery which.toNat s
    = report s (tariffContents s (if which = 0 then s.cfg.active else s.cfg.staged)) := by
  rcases (by bv_omega : which = 0 ∨ which = 1) with rfl | rfl
  · rfl
  · rfl

theorem doTariffQuery_badField {which : Nat} (h : 1 < which) : doTariffQuery which s = .error .badField := by
  rw [doTariffQuery, flag?_eq_none h, field]

/-! ### TARIFF_MODE (R124) -/

theorem exec_tariffMode (tag mode : Byte) : exec (.tariffMode tag mode) s
    = .next (hostRequest 0x2A tag [mode] (fun _ => doTariffMode mode.toNat) s) := rfl

theorem doTariffMode_flag (hsave : s.ss.saving = none) (d : Bool) : doTariffMode (bit d) s
    = if s.cfg.direct = d then .error .already else .ok { st := { s with cfg := { s.cfg with direct := d } } } := by
  rw [doTariffMode, unlessSaving_of_none hsave, flag?_bit, field, accept]

theorem doTariffMode_badField (hsave : s.ss.saving = none) {mode : Nat} (h : 1 < mode) :
    doTariffMode mode s = .error .badField := by
  rw [doTariffMode, unlessSaving_of_none hsave, flag?_eq_none h, field]

/-! ### The figure that is written (Table 8-2) -/

theorem edit_base (k : Fin 16) {v : Nat} (hv : v ≤ 65535) :
    t.edit 0 k.val v = some { t with base := t.base.set k v } := by
  simp [Tariff.edit, hv]

theorem edit_size (k : Fin 8) {v : Nat} (hv : v ≤ 255) :
    t.edit 1 k.val v = some { t with size := t.size.set k v } := by
  simp [Tariff.edit, hv]

theorem edit_second {v : Nat} (hv : v ≤ 16) : t.edit 2 0 v = some { t with second := v } := by
  simp [Tariff.edit, hv]

theorem edit_t1 (v : Nat) : t.edit 3 0 v = some { t with t1 := v } := rfl
theorem edit_t2 (v : Nat) : t.edit 3 1 v = some { t with t2 := v } := rfl
theorem edit_t3 (v : Nat) : t.edit 3 2 v = some { t with t3 := v } := rfl

theorem edit_discount (k : Fin 4) {v : Nat} (hv : v ≤ 100) :
    t.edit 4 k.val v = some { t with discount := t.discount.set k v } := by
  simp [Tariff.edit, hv]

/-- An index and a value behind their two guards, one of which fails. -/
theorem guarded_eq_none {α : Type} {index v hi top : Nat} {x : index < hi → α} (h : ¬ index < hi ∨ ¬ v ≤ top) :
    (if h : index < hi then (if v ≤ top then some (x h) else none) else none) = none := by
  rcases h with h | h
  · exact dif_neg h
  · simp [h]

/-- The items, indices and values that name no figure or do not fit it. -/
theorem edit_eq_none {item index v : Nat} (h : 4 < item ∨ (item = 0 ∧ (15 < index ∨ 65535 < v))
    ∨ (item = 1 ∧ (7 < index ∨ 255 < v)) ∨ (item = 2 ∧ (index ≠ 0 ∨ 16 < v)) ∨ (item = 3 ∧ 2 < index)
    ∨ (item = 4 ∧ (3 < index ∨ 100 < v))) : t.edit item index v = none := by
  rcases h with h | ⟨rfl, h⟩ | ⟨rfl, h⟩ | ⟨rfl, h⟩ | ⟨rfl, h⟩ | ⟨rfl, h⟩
  · obtain ⟨k, rfl⟩ := Nat.exists_eq_add_of_lt h
    rw [show 4 + k + 1 = k + 5 by omega]
    rfl
  · exact guarded_eq_none (by omega)
  · exact guarded_eq_none (by omega)
  · exact if_neg (by omega)
  · obtain ⟨k, rfl⟩ := Nat.exists_eq_add_of_lt h
    rw [show 2 + k + 1 = k + 3 by omega]
    rfl
  · exact guarded_eq_none (by omega)

/-! ### TARIFF_SET (R123) -/

theorem exec_tariffSet (tag item index : Byte) (value : Word) : exec (.tariffSet tag item index value) s
    = .next (hostRequest 0x28 tag ([item, index] ++ wordBytes value)
        (fun _ => doTariffSet item.toNat index.toNat value.toNat) s) := rfl

section Edits

variable {item index value : Nat}

theorem doTariffSet_staged (hsave : s.ss.saving = none) (hd : s.cfg.direct = false)
    (he : s.cfg.staged.edit item index value = some t) : doTariffSet item index value s
      = .ok { contents := be8 t.check, st := { s with cfg := { s.cfg with staged := t } } } := by
  simp [doTariffSet, unlessSaving_of_none hsave, hd, he, field]

theorem doTariffSet_active (hsave : s.ss.saving = none) (hd : s.cfg.direct = true)
    (he : s.cfg.active.edit item index value = some t) (hc : t.check = 0) : doTariffSet item index value s
      = .ok { contents := [0], st := { s with cfg := { s.cfg with active := t } } } := by
  simp [doTariffSet, unlessSaving_of_none hsave, hd, he, field, Tariff.consistent, hc, be8]

theorem doTariffSet_inconsistent (hsave : s.ss.saving = none) (hd : s.cfg.direct = true)
    (he : s.cfg.active.edit item index value = some t) (hc : t.check ≠ 0) :
    doTariffSet item index value s = .error .invalidTariff := by
  simp [doTariffSet, unlessSaving_of_none hsave, hd, he, field, Tariff.consistent, hc]

theorem doTariffSet_badField (hsave : s.ss.saving = none) (he : ∀ t : Tariff, t.edit item index value = none) :
    doTariffSet item index value s = .error .badField := by
  simp [doTariffSet, unlessSaving_of_none hsave, he, field]

end Edits

/-- Settles O47: each request's answer is one equation of its block, and each figure of Table 8-2 one equation of
`Tariff.edit`. -/
theorem tariffEdits : Obligations.TariffEdits := by
  unfold Obligations.TariffEdits
  intro tag s htag ht
  refine ⟨fun which => ?query, fun hs => ?edits⟩
  case query =>
    intro f
    have hm : mlcCheck 0x29 tag [which].length = none :=
      mlcCheck_eq_none htag rfl ⟨Nat.le_refl 1, Nat.le_refl 1⟩
    have hp : [which].length ≤ maxPayload := by simp [maxPayload]
    refine ⟨fun hwhich => ?reports,
      fun hbad => answers_of_error (exec_tariffQuery ..) ht hp hm (doTariffQuery_badField hbad)⟩
    intro t contents
    have hcontents : tariffContents s t = contents := by
      rw [tariffContents, tariffReport_eq, be8_bit]
      exact congrArg _ (scheduleReport_eq _)
    rw [← hcontents]
    exact ⟨tariffContents_length s t,
      answers_of_ok (exec_tariffQuery ..) ht hp hm (doTariffQuery_sheet (s := s.taking) hwhich)⟩
  case edits =>
    have hsave : s.taking.ss.saving = none := hs
    refine ⟨fun mode => ?mode, fun item index value => ?set⟩
    case mode =>
      have hm : mlcCheck 0x2A tag [mode].length = none :=
        mlcCheck_eq_none htag rfl ⟨Nat.le_refl 1, Nat.le_refl 1⟩
      have hp : [mode].length ≤ maxPayload := by simp [maxPayload]
      refine ⟨fun d hmode => ?flag, fun hbad =>
        answers_of_error (exec_tariffMode ..) ht hp hm (doTariffMode_badField hsave hbad)⟩
      have hanswer := doTariffMode_flag hsave d
      rw [bit, ← hmode] at hanswer
      exact ⟨fun hheld => answers_of_error (exec_tariffMode ..) ht hp hm (hanswer.trans (if_pos hheld)),
        fun hother => answers_of_ok (exec_tariffMode ..) ht hp hm (hanswer.trans (if_neg hother))⟩
    case set =>
      intro i f v puts
      have hm : mlcCheck 0x28 tag ([item, index] ++ wordBytes value).length = none :=
        mlcCheck_eq_none htag rfl ⟨Nat.le_refl 6, Nat.le_refl 6⟩
      have hp : ([item, index] ++ wordBytes value).length ≤ maxPayload := by simp [maxPayload, wordBytes]
      have hputs {edit : Tariff → Tariff} {n k : Nat} (he : ∀ t : Tariff, t.edit n k v = some (edit t))
          (hitem : item.toNat = n) (hindex : index.toNat = k) : puts edit := by
        subst hitem hindex
        exact ⟨
          fun hd => answers_of_ok (exec_tariffSet ..) ht hp hm (doTariffSet_staged hsave hd (he _)),
          fun hd hc => answers_of_ok (exec_tariffSet ..) ht hp hm (doTariffSet_active hsave hd (he _) hc),
          fun hd hc => answers_of_error (exec_tariffSet ..) ht hp hm (doTariffSet_inconsistent hsave hd (he _) hc)⟩
      -- Only `hputs` speaks of `puts` from here on; unfolding it in every figure's goal is costly.
      clear_value puts
      refine ⟨fun k hitem hindex hv => ?base, fun k hitem hindex hv => ?size, fun hitem hindex hv => ?second,
        fun hitem hindex => ?t1, fun hitem hindex => ?t2, fun hitem hindex => ?t3,
        fun k hitem hindex hv => ?discount,
        fun hbad => answers_of_error (exec_tariffSet ..) ht hp hm
          (doTariffSet_badField hsave fun t => edit_eq_none ?bad)⟩
      case base => exact hputs (fun _ => edit_base k hv) (congrArg _ hitem) hindex
      case size => exact hputs (fun _ => edit_size k hv) (congrArg _ hitem) hindex
      case second => exact hputs (fun _ => edit_second hv) (congrArg _ hitem) (congrArg _ hindex)
      case t1 => exact hputs (fun _ => edit_t1 v) (congrArg _ hitem) (congrArg _ hindex)
      case t2 => exact hputs (fun _ => edit_t2 v) (congrArg _ hitem) (congrArg _ hindex)
      case t3 => exact hputs (fun _ => edit_t3 v) (congrArg _ hitem) (congrArg _ hindex)
      case discount => exact hputs (fun _ => edit_discount k hv) (congrArg _ hitem) hindex
      case bad => simpa [← BitVec.toNat_inj] using hbad

end Sys2Proof.Machine
end

section
/-! PROOF. What a command can be: a request, whose payload its owner reads as the row's operands (R5, log 2); bytes on
a link; or one event, taken whole as an act. -/

namespace Sys2Proof.Machine

variable {s : State}

/-! ### Payload fields as their readers see them (R1) -/

@[simp] theorem halfAt_halfBytes (x : Half) : halfAt (halfBytes x) 0 = x.toNat := by
  simp [halfAt, byteAt, halfBytes, be16]
  omega

@[simp] theorem halfAt_halfBytes_append (x : Half) (post : List Byte) : halfAt (halfBytes x ++ post) 0 = x.toNat := by
  rw [← halfAt_halfBytes x]; rfl

/-- The four bytes of a word, behind any bytes, read as the word. -/
theorem wordAt_wordBytes (pre : List Byte) (x : Word) : wordAt (pre ++ wordBytes x) pre.length = x.toNat := by
  have hi := halfAt_be16 (pre := pre) (post := be16 x.toNat) (n := x.toNat / 65536) (by omega)
  have lo := halfAt_be16 (pre := pre ++ be16 (x.toNat / 65536)) (post := []) (n := x.toNat % 65536) (by omega)
  have hb : be16 (x.toNat % 65536) = be16 x.toNat := by
    simp only [be16, List.cons.injEq, and_true]
    constructor <;> (apply BitVec.eq_of_toNat_eq; simp only [BitVec.toNat_ofNat]; omega)
  have hw : pre ++ wordBytes x = pre ++ (be16 (x.toNat / 65536) ++ be16 x.toNat) := rfl
  have hw' : pre ++ wordBytes x = pre ++ be16 (x.toNat / 65536) ++ (be16 (x.toNat % 65536) ++ []) := by
    rw [hb, List.append_nil, hw, List.append_assoc]
  rw [wordAt, hw, hi, ← hw, hw', show pre.length + 2 = (pre ++ be16 (x.toNat / 65536)).length by simp, lo]
  omega

/-- A row that hands a request to a handler which is its kind's owner. -/
theorem request_row {i : Instr} {f : Frame} {kind : Nat} {h : Handler}
    (hexec : exec i s = .next (hostRequest kind f.tag f.payload h s)) (hk : f.kind.toNat = kind)
    (hh : h = takeByKind kind f.payload) :
    exec i s = .next (hostRequest f.kind.toNat f.tag f.payload (takeByKind f.kind.toNat f.payload) s) := by
  rw [hexec, hk, hh]

/-- The copies of JOB_OPEN stand behind four bytes. -/
theorem halfAt_four (a b c d : Byte) (x : Half) (post : List Byte) :
    halfAt (a :: b :: c :: d :: (halfBytes x ++ post)) 4 = x.toNat := halfAt_be16 (pre := [a, b, c, d]) x.isLt

/-- The seven bytes behind port 16 spell the fields of the part-wide form (R28). -/
theorem doPortSet_partWide (reserve threshold : Half) (post : List Byte) (escalation zero1 zero2 : Nat) (t : State) :
    let p := 16 :: (halfBytes reserve ++ (halfBytes threshold ++ post))
    doPortSet 16 (byteAt p 1) (byteAt p 2) (byteAt p 3) (byteAt p 4) escalation zero1 zero2 t
      = doPartWideSet reserve.toNat threshold.toNat escalation zero1 zero2 t := by
  have hr := halfAt_be16 (pre := [16]) (post := halfBytes threshold ++ post) reserve.isLt
  have ht := halfAt_be16 (pre := 16 :: halfBytes reserve) (post := post) threshold.isLt
  rw [← hr, ← ht]; rfl

/-- A request row is a request of its frame's kind, tag and payload, handled by the owner of that kind (log 2). -/
theorem exec_request {i : Instr} {f : Frame} (h : requestOf i = some f) :
    exec i s = .next (hostRequest f.kind.toNat f.tag f.payload (takeByKind f.kind.toNat f.payload) s) := by
  have w0 (x : Word) : wordAt (wordBytes x) 0 = x.toNat := wordAt_wordBytes [] x
  have w2 (a b : Byte) (x : Word) : wordAt (a :: b :: wordBytes x) 2 = x.toNat := wordAt_wordBytes [a, b] x
  have w3 (y : Half) (a : Byte) (x : Word) : wordAt (halfBytes y ++ a :: wordBytes x) 3 = x.toNat := by
    simpa using wordAt_wordBytes (halfBytes y ++ [a]) x
  cases i <;> cases h <;> refine request_row rfl rfl (funext fun mask => funext fun t => ?_)
  case clockSet | tariffSet | tariffCutoverNow | tariffCutoverAt | tariffCutoverCancel | accountSet =>
    simp [takeByKind, w0, w2, byteAt]
  case jobOpen => simp [takeByKind, halfAt_four]; rfl
  case sheetEnd | jobMove => simp [takeByKind, w3]; rfl
  case sheetData => simp [takeByKind]; rfl
  case jobClose | jobQuery | jobHold | jobRelease | jobCancel | jobSuspend | jobResume | jobForget =>
    simp [takeByKind, jobFrame]
  case portSetPartWide => exact (doPortSet_partWide ..).symm
  case routeSet => simp [takeByKind, byteAt]
  all_goals rfl

end Sys2Proof.Machine
end

section
/-! PROOF. What a command can be: one event taken whole as an act, or bytes on a link (R65, R85, R121). -/

namespace Sys2Proof.Machine

variable {s : State}

variable {p : PortNo}

/-! ### Frames on a press link -/

/-- A kind outside 0x41 to 0x46 is none that a printer sends. -/
theorem pressFrame_unlisted {f : Frame} (h : f.kind.toNat < 65 ∨ 70 < f.kind.toNat) :
    reportOf p f = none ∧ pressFrame p f = fun s => (s, []) := by
  unfold pressFrame reportOf
  generalize f.kind.toNat = kind at h
  obtain h | h := h
  · interval_cases kind <;> exact ⟨rfl, rfl⟩
  · obtain ⟨m, rfl⟩ := Nat.exists_eq_add_of_le' h
    exact ⟨rfl, rfl⟩

/-- What a complete frame on a press link is: one of the six reports, taken as its row takes it, or none (R86). -/
inductive Report (p : PortNo) : Frame → (State → State × List Task) → Prop
  | hello (tag c d m z w : Byte) : Report p ⟨0x41, tag, [c, d, m, z, w]⟩ (helloFrame p c.toNat d.toNat m z w.toNat)
  | taken (tag : Byte) : Report p ⟨0x42, tag, []⟩ (onTaken p tag)
  | out (tag : Byte) : Report p ⟨0x43, tag, []⟩ (onOut p tag)
  | jam (tag l n : Byte) : Report p ⟨0x44, tag, [l, n]⟩ (jamFrame p l.toNat n.toNat)
  | clear (tag : Byte) : Report p ⟨0x45, tag, []⟩ (onClear p)
  | state (tag r d m : Byte) : Report p ⟨0x46, tag, [r, d, m]⟩ (stateFrame p r.toNat d.toNat m)
  | none {f : Frame} (h : reportOf p f = .none) : Report p f (fun s => (s, []))

theorem pressFrame_report (p : PortNo) (f : Frame) : Report p f (pressFrame p f) := by
  by_cases h : f.kind.toNat < 65 ∨ 70 < f.kind.toNat
  · obtain ⟨hn, he⟩ := pressFrame_unlisted (p := p) h
    rw [he]; exact .none hn
  · obtain ⟨kind, tag, payload⟩ := f
    have hk : kind = 0x41 ∨ kind = 0x42 ∨ kind = 0x43 ∨ kind = 0x44 ∨ kind = 0x45 ∨ kind = 0x46 := by bv_omega
    obtain rfl | rfl | rfl | rfl | rfl | rfl := hk
    · obtain _ | ⟨c, _ | ⟨d, _ | ⟨m, _ | ⟨z, _ | ⟨w, _ | ⟨_, _⟩⟩⟩⟩⟩⟩ := payload
      case cons.cons.cons.cons.cons.nil => exact .hello tag c d m z w
      all_goals exact .none rfl
    · obtain _ | ⟨_, _⟩ := payload
      · exact .taken tag
      · exact .none rfl
    · obtain _ | ⟨_, _⟩ := payload
      · exact .out tag
      · exact .none rfl
    · obtain _ | ⟨l, _ | ⟨n, _ | ⟨_, _⟩⟩⟩ := payload
      case cons.cons.nil => exact .jam tag l n
      all_goals exact .none rfl
    · obtain _ | ⟨_, _⟩ := payload
      · exact .clear tag
      · exact .none rfl
    · obtain _ | ⟨r, _ | ⟨d, _ | ⟨m, _ | ⟨_, _⟩⟩⟩⟩ := payload
      case cons.cons.cons.nil => exact .state tag r d m
      all_goals exact .none rfl

/-! ### Events -/

/-- The events of the table, each by the step that takes it. -/
inductive Event : (State → State × List Task) → Prop
  | request (f : Frame) : Event (present f (takeByKind f.kind.toNat f.payload))
  | tooLong : Event (fun s => (countDiscard s, []))
  | reset (strap : BitVec 2) (touched : Bool) : Event (powerReset strap touched)
  | tick : Event (fun s => examineSchedule (countSecond s))
  | tickDue : Event (fun s => if s.dueNext then examineSchedule (countSecond s) else (s, []))
  | frameSent : Event endFrame
  | restartBegin : Event (fun s => match s.mlc.announcing with
      | some k => restartNow k s
      | none => (s, []))
  | saveEnd (agrees : Bool) : Event (fun s => (saveEnds agrees s, []))
  | pressFrame (p : PortNo) (f : Frame) : Event (pressFrame p f)
  | transferEnd (p : PortNo) : Event (fun s => (transferEnds p s, []))
  | hailTimer (p : PortNo) : Event (fun s => (hailAgain p s, []))
  | wakeTimer (p : PortNo) : Event (fun s => (wakeFails p s, []))
  | idleTimer (p : PortNo) : Event (sleepNow p)
  | watchdog (p : PortNo) : Event (watchdogExpires p)
  | attemptTimer (p : PortNo) : Event (fun s => (attemptExpires p s, []))
  | rateWindow (p : PortNo) : Event (fun s => (rateWindowEnds p s, []))
  | escalation (e : EntryNo) : Event (fun s => (escalate e s, []))
  | poll : Event (fun s => (pollNext s, []))
  | pollTimeout : Event (fun s => (onTimeout s, []))
  | answer (tag code number : Byte) (argument : Half) : Event (onAnswer tag code number argument)
  | replyFrame (checkHolds : Bool) (kind tag : Byte) (payload : List Byte) :
      Event (onReplyFrame checkHolds kind tag payload)

/-- A request's arrival is one event, whatever its length. -/
theorem hostRequest_event (f : Frame) : ∃ e, Event e
    ∧ hostRequest f.kind.toNat f.tag f.payload (takeByKind f.kind.toNat f.payload) s = act e s := by
  by_cases h : maxPayload < f.payload.length
  · exact ⟨_, .tooLong, if_pos h⟩
  · refine ⟨_, .request f, (if_neg h).trans ?_⟩
    rw [BitVec.ofNat_toNat, BitVec.setWidth_eq]

/-- Every command is one event taken whole, or bytes that arrive on the host link or on a press link. -/
theorem exec_cases (i : Instr) (s : State) :
    (∃ e, Event e ∧ exec i s = .next (act e s))
      ∨ (∃ bytes : List Byte, exec i s = .next (bytes.foldl hostByte (openAct s)))
      ∨ ∃ (p : PortNo) (bytes : List Byte), exec i s = .next (bytes.foldl (pressByte p) (openAct s)) := by
  cases hf : requestOf i with
  | some f =>
    obtain ⟨e, he, heq⟩ := hostRequest_event (s := s) f
    exact .inl ⟨e, he, (exec_request hf).trans (congrArg _ heq)⟩
  | none =>
    cases i
    case hostFrameReceived bytes => exact .inr (.inl ⟨bytes, rfl⟩)
    case pressFrameDiscarded p bytes => exact .inr (.inr ⟨p, bytes, rfl⟩)
    all_goals try exact absurd hf (Option.some_ne_none _)
    all_goals left
    case powerOn strap touched => exact ⟨_, .reset strap touched, rfl⟩
    case resetInput strap touched => exact ⟨_, .reset strap touched, rfl⟩
    case shopClockTick => exact ⟨_, .tick, rfl⟩
    case cutoverScheduleDue => exact ⟨_, .tickDue, rfl⟩
    case frameSent => exact ⟨_, .frameSent, rfl⟩
    case restartBegin => exact ⟨_, .restartBegin, rfl⟩
    case saveWriteEnd agrees => exact ⟨_, .saveEnd agrees, rfl⟩
    case hello p c d m z w => exact ⟨_, .pressFrame p ⟨0x41, 0, [c, d, m, z, w]⟩, rfl⟩
    case taken p tag => exact ⟨_, .pressFrame p ⟨0x42, tag, []⟩, rfl⟩
    case out p tag => exact ⟨_, .pressFrame p ⟨0x43, tag, []⟩, rfl⟩
    case jam p l n => exact ⟨_, .pressFrame p ⟨0x44, 0, [l, n]⟩, rfl⟩
    case clear p => exact ⟨_, .pressFrame p ⟨0x45, 0, []⟩, rfl⟩
    case state p r d m => exact ⟨_, .pressFrame p ⟨0x46, 0, [r, d, m]⟩, rfl⟩
    case transferEnd p => exact ⟨_, .transferEnd p, rfl⟩
    case hailTimerExpiry p => exact ⟨_, .hailTimer p, rfl⟩
    case wakeTimerExpiry p => exact ⟨_, .wakeTimer p, rfl⟩
    case idleTimerExpiry p => exact ⟨_, .idleTimer p, rfl⟩
    case progressWatchdogExpiry p => exact ⟨_, .watchdog p, rfl⟩
    case attemptTimerExpiry p => exact ⟨_, .attemptTimer p, rfl⟩
    case rateWindowEnd p => exact ⟨_, .rateWindow p, rfl⟩
    case escalationReached e => exact ⟨_, .escalation e, rfl⟩
    case poll => exact ⟨_, .poll, rfl⟩
    case pollReplyTimeout => exact ⟨_, .pollTimeout, rfl⟩
    case pollReplyBadFrame c k t p => exact ⟨_, .replyFrame c k t p, rfl⟩
    all_goals exact ⟨_, .answer _ _ _ _, rfl⟩

end Sys2Proof.Machine
end

section
/-! PROOF. What a request or a task may change of what the invariants speak of: the job numbers, the spool, the ACTIVE
sheet, the alerts and their sources, the windows, the time base. Every request and every task is a chain of these
changes, so that an invariant is looked at once for each change. -/

namespace Sys2Proof.Machine

/-- What of a port the invariants speak of: link, windows, in-flight list, conditions. -/
def Port.core (x : Port) : Port :=
  { link := x.link, maxWindow := x.maxWindow, effWindow := x.effWindow, inFlight := x.inFlight, conds := x.conds }

theorem Port.core_eq_iff {x y : Port} : x.core = y.core ↔ x.link = y.link ∧ x.maxWindow = y.maxWindow
    ∧ x.effWindow = y.effWindow ∧ x.inFlight = y.inFlight ∧ x.conds = y.conds := by simp [Port.core]

/-- `t` differs from `s` in nothing that the invariants speak of. -/
structure Same (s t : State) : Prop where
  smm : t.smm = s.smm
  jobs : t.jt.jobs = s.jt.jobs
  lastNum : t.jt.lastNum = s.jt.lastNum
  au : t.au = s.au
  active : t.cfg.active = s.cfg.active
  escalation : t.cfg.escalation = s.cfg.escalation
  window : ∀ p, (t.portCfg p).window = (s.portCfg p).window
  base : t.base = s.base
  clock : t.mlc.clock = s.mlc.clock
  core : ∀ p, (t.port p).core = (s.port p).core

/-- The images of job `n` go, and their blocks are free again (R27). -/
def dropImages (n : Nat) (s : State) : State :=
  { s with smm := { s.smm with
    free := s.smm.free ++ s.smm.chainsOf n, images := s.smm.images.filter (fun x => x.job != n) } }

/-- The part-wide settings become these (R28). -/
def setPartWide (reserve threshold escalation : Nat) (s : State) : State :=
  { s with cfg := { s.cfg with rushReserve := reserve, lowSpool := threshold, escalation := escalation } }

/-- One change that a request or a task makes. No such change brings a link UP: that a HELLO does alone (R89). -/
inductive Change (s : State) : State → Prop
  | same {t : State} (h : Same s t) : Change s t
  | modJob (n : Nat) (f : Job → Job) (h : ∀ j, (f j).num = j.num ∧ (f j).record = j.record) : Change s (s.modJob n f)
  | addJob (j : Job) (hr : s.jt.freeRecord = some j.record) (hn : j.num = s.nextJobNumber) : Change s (addJob j s)
  | freeRecord (n : Nat) : Change s (freeRecord n s)
  | dropImages (n : Nat) : Change s (dropImages n s)
  | spoolLow : Change s (evalSpoolLow s)
  | append (n : Nat) (i : Image) (data : List Byte) (hi : s.smm.dataImage n = some i) (hd : data.length ≤ 1024)
      (hf : i.needsBlock data.length = true → s.smm.free ≠ []) :
      Change s { s with smm := s.smm.appendData i (s.smm.building? n).isNone (i.needsBlock data.length) data }
  | complete (n : Nat) (i : Image) (sides offset : Nat) (hi : s.smm.building? n = some i) :
      Change s (completeImage i sides offset s)
  | condOn (p : PortNo) (k : AlertKind) (d : Option Nat) (hk : k ≠ .spoolLow) : Change s (condOn p k d s)
  | condOff (p : PortNo) (k : AlertKind) (hk : k ≠ .spoolLow) : Change s (condOff p k s)
  | alertRepeat (e : EntryNo) (d : Nat) : Change s (alertRepeat e d s)
  | alertAck (e : EntryNo) (b : AckBy) : Change s (alertAck e b s)
  | silence : Change s (evalHorn { s with au := { s.au with silenced := true } })
  | partWide (r l e : Nat) : Change s (evalHorn (evalSpoolLow (setPartWide r l e s)))
  | active (x : Tariff) (h : x.check = 0) : Change s { s with cfg := { s.cfg with active := x } }
  | setLink (p : PortNo) (l : Link) (hl : l ≠ .up) (h : (s.port p).link ≠ .up ∨ (s.port p).inFlight = []) :
      Change s (setLink p l s)
  | portSet (p : PortNo) (c : PortSettings) : Change s (refreshWindow p (s.setPortCfg p c))
  | refresh (p : PortNo) (f : Port → Port) (hl : ∀ x, (f x).link = x.link) (hc : ∀ x, (f x).conds = x.conds)
      (h : (s.port p).link ≠ .up → (f (s.port p)).inFlight = []) : Change s (refreshWindow p (s.modPort p f))
  | flights (p : PortNo) (f : Port → Port) (hl : ∀ x, (f x).link = x.link)
      (hw : ∀ x, (f x).maxWindow = x.maxWindow ∧ (f x).effWindow = x.effWindow) (hc : ∀ x, (f x).conds = x.conds)
      (h : (f (s.port p)).inFlight.length = (s.port p).inFlight.length
        ∨ (s.port p).link = .up ∧ (s.port p).inFlight.length < (s.port p).effWindow
          ∧ (f (s.port p)).inFlight.length = (s.port p).inFlight.length + 1) : Change s (s.modPort p f)
  | restartSecond (m : Mlc) (hm : m.clock ≤ max32) : Change s { s with mlc := m, base := { s.base with secondAt := s.base.now } }

variable {s t u : State}

/-- A chain of changes. -/
abbrev Reach : State → State → Prop := Relation.ReflTransGen Change

theorem Reach.refl : Reach s s := Relation.ReflTransGen.refl

/-- What every change keeps, a chain of them keeps. -/
theorem Reach.keeps {P : State → Prop} (hP : ∀ s t, Change s t → P s → P t) (h : Reach s t) (hs : P s) : P t := by
  induction h with
  | refl => exact hs
  | tail _ hc ih => exact hP _ _ hc ih

/-! ### Writes that change nothing the invariants speak of

Each operation extends a chain of changes: the lemmas below are applied to the chain that leads to its argument. -/

section
variable {p : PortNo} {n : Nat} {d : Option Nat} {r : JobReason} {j : Job} {k : AlertKind}

theorem reach_then (h : Reach s t) (hc : Change t u) : Reach s u := h.tail hc

theorem reach_same (h : Reach s t) (hs : Same t u) : Reach s u := h.tail (.same hs)

/-- The blocks the invariants speak of are the same. -/
theorem reach_frame (h : Reach s t) (h1 : u.smm = t.smm) (h2 : u.jt.jobs = t.jt.jobs)
    (h3 : u.jt.lastNum = t.jt.lastNum) (h4 : u.au = t.au) (h5 : u.cfg = t.cfg) (h6 : u.base = t.base)
    (h7 : u.ports = t.ports) (h8 : u.mlc.clock = t.mlc.clock) : Reach s u :=
  reach_same h
    ⟨h1, h2, h3, h4, by rw [h5], by rw [h5], by simp [State.portCfg, h5], h6, h8, by simp [State.port, h7]⟩

theorem reach_note {k : Byte} {c : List Byte} (h : Reach s t) : Reach s (t.note k c) := by
  apply reach_frame h <;> simp
theorem reach_noteJob (h : Reach s t) : Reach s (t.noteJob n r) := by apply reach_frame h <;> simp
theorem reach_notePort (h : Reach s t) : Reach s (t.notePort p) := by apply reach_frame h <;> simp
theorem reach_send {f : Frame} (h : Reach s t) : Reach s (t.send p f) := by apply reach_frame h <;> simp
theorem reach_setQueue {d : Fin 32} {q : List Nat} (h : Reach s t) : Reach s (t.setQueue d q) := by
  apply reach_frame h <;> simp
theorem reach_setReservation {a : Fin 128} {x : Reserved} (h : Reach s t) : Reach s (t.setReservation a x) := by
  apply reach_frame h <;> simp
theorem reach_setPanel {a : Fin 8} {x : Panel} (h : Reach s t) : Reach s (t.setPanel a x) := by
  apply reach_frame h <;> simp

/-- Settings other than the windows, the escalation time and the ACTIVE sheet change nothing the invariants speak of. -/
theorem reach_settings {g : Settings} (h : Reach s t) (ha : g.active = t.cfg.active)
    (he : g.escalation = t.cfg.escalation) (hp : ∀ p : PortNo, g.ports[p.val].window = (t.portCfg p).window) :
    Reach s { t with cfg := g } :=
  reach_same h ⟨rfl, rfl, rfl, rfl, ha, he, hp, rfl, rfl, fun _ => rfl⟩

theorem reach_setAccount {a : Fin 128} {x : Account} (h : Reach s t) : Reach s (t.setAccount a x) :=
  reach_settings h rfl rfl (fun _ => rfl)

theorem reach_modPort {f : Port → Port} (h : Reach s t) (hf : ∀ x, (f x).core = x.core) :
    Reach s (t.modPort p f) := by
  refine reach_same h
    ⟨by simp, by simp, by simp, by simp, by simp, by simp, by simp [State.portCfg], by simp, by simp,
      fun q => ?_⟩
  rw [port_modPort]
  split
  · exact hf _
  · rfl

theorem reach_modJob {f : Job → Job} (h : Reach s t)
    (hf : ∀ j, (f j).num = j.num ∧ (f j).record = j.record) :
    Reach s (t.modJob n f) := h.tail (.modJob n f hf)

/-! ### Alerts and lamps -/

theorem reach_evalLamps (h : Reach s t) : Reach s (evalLamps p t) := by
  unfold evalLamps
  split
  · exact h
  · exact reach_modPort h (fun _ => rfl)

theorem reach_condOff (h : Reach s t) (hk : k ≠ .spoolLow) : Reach s (condOff p k t) :=
  h.tail (.condOff p k hk)

theorem reach_condOn (h : Reach s t) (hk : k ≠ .spoolLow) : Reach s (condOn p k d t) :=
  h.tail (.condOn p k d hk)

theorem reach_evalMedia (h : Reach s t) : Reach s (evalMedia p t) := by
  unfold evalMedia
  split
  · split
    · exact reach_condOn h nofun
    · exact reach_condOff h nofun
  · exact reach_condOff h nofun

theorem reach_evalDoor (h : Reach s t) : Reach s (evalDoor p t) := by
  unfold evalDoor
  split
  · exact reach_condOn h nofun
  · exact reach_condOff h nofun

theorem reach_freeImages (h : Reach s t) : Reach s (freeImages n t) := (h.tail (.dropImages n)).tail .spoolLow

/-! ### Jobs -/

theorem reach_clearBusy (h : Reach s t) : Reach s (clearBusy p t) := reach_modPort h (fun _ => rfl)

theorem reach_setJobState {st : JobState} (h : Reach s t) : Reach s (setJobState n st r t) := by
  unfold setJobState
  split
  · exact h
  · split
    · exact h
    · have h' : Reach s ((t.modJob n (fun j => { j with state := st })).noteJob n r) :=
        reach_noteJob (reach_modJob h (fun _ => ⟨rfl, rfl⟩))
      dsimp only
      split
      · exact h'
      · split
        · exact reach_clearBusy h'
        · exact h'

theorem reach_starvedTest (h : Reach s t) : Reach s (starvedTest n r t) := by
  unfold starvedTest
  split
  · exact h
  · split
    · exact reach_setJobState h
    · exact h

theorem reach_leaveRun (h : Reach s t) : Reach s (leaveRun p t) := reach_evalMedia (reach_modPort h (fun _ => rfl))

theorem reach_enterRun (h : Reach s t) : Reach s (enterRun p n t) := by
  unfold enterRun
  refine reach_evalMedia ?_
  split
  · exact reach_setJobState (reach_modJob (reach_modPort h (fun _ => rfl)) (fun _ => ⟨rfl, rfl⟩))
  · exact reach_modJob (reach_modPort h (fun _ => rfl)) (fun _ => ⟨rfl, rfl⟩)

theorem reach_joinQueue (h : Reach s t) : Reach s (joinQueue n r t).1 := by
  unfold joinQueue
  dsimp only
  split
  · exact reach_modJob h (fun _ => ⟨rfl, rfl⟩)
  · split
    · exact reach_setJobState (reach_modPort (reach_modJob h (fun _ => ⟨rfl, rfl⟩)) (fun _ => rfl))
    · exact reach_setJobState (reach_setQueue (reach_modJob h (fun _ => ⟨rfl, rfl⟩)))

theorem reach_leaveQueue (h : Reach s t) : Reach s (leaveQueue j t) := by
  unfold leaveQueue
  refine reach_modJob ?_ (fun _ => ⟨rfl, rfl⟩)
  split
  · exact reach_modPort h (fun _ => rfl)
  · exact reach_setQueue h

theorem reach_leaveSlot (h : Reach s t) : Reach s (leaveSlot j t).1 := by
  unfold leaveSlot
  split
  · exact reach_leaveRun h
  · split
    · dsimp only; exact reach_modPort h (fun _ => rfl)
    · split
      · dsimp only; exact reach_modPort h (fun _ => rfl)
      · exact h

theorem reach_detach (h : Reach s t) : Reach s (detach j t).1 := by
  unfold detach
  split
  case h_1 => exact reach_leaveQueue h
  case h_2 | h_3 | h_4 | h_5 | h_6 => exact reach_leaveSlot h
  all_goals exact h

theorem reach_finished {l : List Nat} (h : Reach s t) : Reach s { t with jt := { t.jt with finished := l } } :=
  reach_frame h rfl rfl rfl rfl rfl rfl rfl rfl

theorem reach_finishJob {st : JobState} (h : Reach s t) : Reach s (finishJob j st r t).1 := by
  unfold finishJob
  refine reach_setJobState (reach_finished (reach_freeImages ?_))
  exact reach_modJob (reach_detach h) (fun _ => ⟨rfl, rfl⟩)

theorem reach_leaveSpooling (h : Reach s t) : Reach s (leaveSpooling j t).1 := by
  unfold leaveSpooling
  split
  · exact reach_joinQueue h
  · exact reach_setJobState h

theorem reach_beginDrain {v : Purpose} (h : Reach s t) : Reach s (beginDrain p n v r t).1 :=
  reach_setJobState (reach_modJob h (fun _ => ⟨rfl, rfl⟩))

theorem reach_endDrain {c : EndCause} (h : Reach s t) : Reach s (endDrain p j c t).1 := by
  unfold endDrain
  split
  · exact reach_finishJob h
  · dsimp only
    split
    · exact reach_setJobState (reach_leaveRun (reach_modJob h (fun _ => ⟨rfl, rfl⟩)))
    · split
      · exact reach_setJobState (reach_modPort (reach_leaveRun (reach_modJob h (fun _ => ⟨rfl, rfl⟩))) (fun _ => rfl))
      · exact reach_joinQueue (reach_leaveRun (reach_modJob h (fun _ => ⟨rfl, rfl⟩)))

theorem reach_runEnd {c : EndCause} (h : Reach s t) : Reach s (runEnd p c t).1 := by
  unfold runEnd
  split
  · exact h
  · split
    · split
      · exact reach_finishJob h
      · exact h
    · split
      · exact reach_finishJob h
      · split
        · exact reach_endDrain h
        · exact h

theorem reach_creditStop (h : Reach s t) : Reach s (creditStop p n t).1 :=
  reach_beginDrain (reach_modJob h (fun _ => ⟨rfl, rfl⟩))

theorem reach_creditClear (h : Reach s t) : Reach s (creditClear n t).1 := by
  unfold creditClear
  split
  · exact h
  · dsimp only
    split
    · exact reach_joinQueue (reach_modJob h (fun _ => ⟨rfl, rfl⟩))
    · exact reach_modJob h (fun _ => ⟨rfl, rfl⟩)

/-! ### Offer, pull, dispatch -/

theorem reach_insertAt (h : Reach s t) : Reach s (insertAt p j t).1 := by
  unfold insertAt
  dsimp only
  split
  · exact reach_beginDrain (reach_setJobState (reach_modPort (reach_leaveQueue h) (fun _ => rfl)))
  · exact reach_setJobState (reach_modPort (reach_leaveQueue h) (fun _ => rfl))

theorem reach_offerJob (h : Reach s t) : Reach s (offerJob n t).1 := by
  unfold offerJob
  split
  · exact h
  · dsimp only
    split
    · exact h
    · split
      · exact reach_enterRun (reach_leaveQueue h)
      · split
        · split
          · exact reach_insertAt h
          · exact h
        · exact h

theorem reach_pullQueues (h : Reach s t) : Reach s (pullQueues p t).1 := by
  unfold pullQueues
  split
  · exact h
  · split
    · exact reach_enterRun (reach_modPort h (fun _ => rfl))
    · split
      · exact reach_enterRun (reach_setQueue h)
      · exact h

theorem reach_pull (h : Reach s t) : Reach s (pull p t).1 := by
  unfold pull
  dsimp only
  split
  · exact h
  · split
    · exact reach_enterRun (reach_modPort h (fun _ => rfl))
    · split
      · split
        · exact reach_pullQueues h
        · exact reach_enterRun (reach_modPort h (fun _ => rfl))
      · exact reach_pullQueues h

/-- The conditions of a dispatch name an UP link and room in the window (R92, R101). -/
theorem dispatchReady_up (h : dispatchReady s p j = true) :
    (s.port p).link = .up ∧ (s.port p).inFlight.length < (s.port p).effWindow := by
  simp only [dispatchReady, Port.usable, Bool.and_eq_true, beq_iff_eq, decide_eq_true_eq] at h
  exact ⟨h.1.1.1.1.1.1.1.1.1, h.1.2⟩

theorem reach_sendSheet {i : Image} {f : Flight} (h : Reach s t) (hl : (t.port p).link = .up)
    (hw : (t.port p).inFlight.length < (t.port p).effWindow) : Reach s (sendSheet p j i f t) := by
  refine reach_starvedTest (reach_modJob (reach_then h ?_) (fun _ => ⟨rfl, rfl⟩))
  refine .flights p _ (fun _ => rfl) (fun _ => ⟨rfl, rfl⟩) (fun _ => rfl) (.inr ⟨hl, hw, ?_⟩)
  simp

theorem reach_dispatch (h : Reach s t) : Reach s (dispatch p t).1 := by
  unfold dispatch
  split
  · exact h
  · split
    · exact h
    · next j _ hr =>
      obtain ⟨hl, hw⟩ := dispatchReady_up (by simpa using hr)
      split
      · exact h
      · dsimp only
        split
        · exact reach_sendSheet (reach_setReservation h) hl hw
        · exact reach_creditStop h

end

end Sys2Proof.Machine
end

section
/-! PROOF. No request and no task brings a link UP (R89); the changes a link, a rewind and a stall make (R90, R94 to
R96, R109, R117); what every task comes to. -/

namespace Sys2Proof.Machine

variable {s t u : State} {p q : PortNo}

/-! ### Alerts touch no port but its lamps and conditions -/

theorem port_alertAck (e : EntryNo) (b : AckBy) (q : PortNo) :
    ∃ l, (alertAck e b s).port q = { s.port q with lamps := l } := by
  unfold alertAck
  dsimp only
  split
  · exact port_alertMove ..
  · exact port_alertMove ..
  · exact ⟨_, rfl⟩
  · exact ⟨_, rfl⟩

theorem port_alertRepeat (e : EntryNo) (d : Nat) (q : PortNo) :
    ∃ l, (alertRepeat e d s).port q = { s.port q with lamps := l } := by
  unfold alertRepeat
  dsimp only
  split
  · exact port_alertMove ..
  · exact port_alertMove ..
  · exact ⟨_, rfl⟩
  · exact ⟨_, rfl⟩

theorem port_evalSpoolLow (q : PortNo) : ∃ l, (evalSpoolLow s).port q = { s.port q with lamps := l } := by
  unfold evalSpoolLow
  split
  · exact ⟨_, rfl⟩
  · dsimp only
    split
    · exact port_alertOn { s with smm := { s.smm with low := s.spoolLowNow } } _ _ q
    · exact port_alertOff { s with smm := { s.smm with low := s.spoolLowNow } } _ q

/-- What a change leaves of the link, the printer maximum window and the in-flight list of every port. -/
theorem port_setLink (p : PortNo) (l : Link) (q : PortNo) : (setLink p l s).port q
    = if q = p ∧ (s.port p).link ≠ l then
        { s.port p with link := l
                        effWindow := { s.port p with link := l }.windowNow (s.portCfg p).window }
      else s.port q := by
  unfold setLink
  split
  · next h => simp [h]
  · next h =>
    by_cases hq : q = p
    · subst hq
      have hn : ((s.modPort q (fun x => { x with link := l })).notePort q).port q = { s.port q with link := l } := by
        simp [State.port, State.modPort, State.setPort]
      simp [refreshWindow, hn, h, State.portCfg]
    · have hn : ((s.modPort p (fun x => { x with link := l })).notePort p).port q = s.port q := by
        rw [show ((s.modPort p (fun x => { x with link := l })).notePort p).port q
          = (s.modPort p (fun x => { x with link := l })).port q by simp [State.port]]
        simp [hq]
      simp [refreshWindow, hn, hq]

/-- No change brings a link UP. -/
theorem Change.not_up (h : Change s t) (hq : (s.port q).link ≠ .up) : (t.port q).link ≠ .up := by
  cases h with
  | same h => rwa [(Port.core_eq_iff.mp (h.core q)).1]
  | spoolLow => obtain ⟨l, hl⟩ := port_evalSpoolLow (s := s) q; rwa [hl]
  | condOn p k d hk => obtain ⟨l, c, hl⟩ := port_condOn s p q k d; rwa [hl]
  | condOff p k hk => obtain ⟨l, c, hl⟩ := port_condOff s p q k; rwa [hl]
  | alertRepeat e d => obtain ⟨l, hl⟩ := port_alertRepeat (s := s) e d q; rwa [hl]
  | alertAck e b => obtain ⟨l, hl⟩ := port_alertAck (s := s) e b q; rwa [hl]
  | partWide r l e =>
    obtain ⟨m, hm⟩ := port_evalSpoolLow (s := setPartWide r l e s) q
    have : (evalHorn (evalSpoolLow (setPartWide r l e s))).port q = { s.port q with lamps := m } := hm
    rwa [this]
  | setLink p l hl h =>
    rw [port_setLink]
    split
    · exact hl
    · exact hq
  | portSet p c =>
    have hp : (s.setPortCfg p c).port q = s.port q := by simp [State.port]
    simp only [refreshWindow, port_modPort, hp]
    split <;> exact hq
  | refresh p f hl hc h =>
    simp only [refreshWindow, port_modPort]
    split <;> simpa [hl] using hq
  | flights p f hl hw hc h =>
    rw [port_modPort]
    split <;> simpa [hl] using hq
  | _ => exact hq

theorem Reach.not_up (h : Reach s t) (hq : (s.port q).link ≠ .up) : (t.port q).link ≠ .up :=
  h.keeps (P := fun s => (s.port q).link ≠ .up) (fun _ _ hc => hc.not_up) hq

/-! ### The link of a port -/

section
variable {c : Bool}

theorem reach_setLink {l : Link} (h : Reach s t) (hl : l ≠ .up)
    (ht : (t.port p).link ≠ .up ∨ (t.port p).inFlight = []) : Reach s (setLink p l t) := h.tail (.setLink p l hl ht)

theorem reach_setCondition {r j d : Bool} {m : Byte} (h : Reach s t) : Reach s (setCondition p r j d m t) := by
  unfold setCondition
  dsimp only
  split
  · exact h
  · exact reach_notePort (reach_modPort h (fun _ => rfl))

theorem reach_startRateWindow (h : Reach s t) : Reach s (startRateWindow p t) := reach_modPort h (fun _ => rfl)

theorem reach_clearUp (h : Reach s t) : Reach s (clearUp p t) := by
  unfold clearUp
  refine reach_modPort ?_ (fun _ => rfl)
  exact reach_condOff (reach_condOff (reach_condOff (reach_setCondition h) nofun) nofun) nofun

theorem reach_goDown (h : Reach s t) (ht : (t.port p).link ≠ .up ∨ (t.port p).inFlight = []) :
    Reach s (goDown p t) := reach_modPort (reach_setLink h nofun ht) (fun _ => rfl)

theorem reach_leaveUpDown (h : Reach s t) (ht : (t.port p).inFlight = []) : Reach s (leaveUpDown p t) :=
  reach_clearUp (reach_goDown h (.inr ht))

theorem reach_enterWaking (h : Reach s t) (ht : (t.port p).link ≠ .up) : Reach s (enterWaking p t) :=
  reach_send (reach_modPort (reach_setLink h nofun (.inl ht)) (fun _ => rfl))

theorem reach_beginAttempt {k : Nat} (h : Reach s t) : Reach s (beginAttempt p k t) :=
  reach_send (reach_send (reach_modPort h (fun _ => rfl)))

theorem reach_runIdleTimer (h : Reach s t) : Reach s (runIdleTimer p t) := by
  unfold runIdleTimer
  split
  · exact reach_modPort h (fun _ => rfl)
  · exact reach_modPort h (fun _ => rfl)

theorem reach_wakeTable (h : Reach s t) : Reach s (wakeTable p t) := by
  unfold wakeTable
  split
  case h_1 hl hm => exact reach_enterWaking h (by simp [hl])
  case h_2 hl hm =>
    split
    · exact reach_enterWaking h (by simp [hl])
    · exact h
  case h_4 hl hm => exact reach_goDown h (.inl (by simp [hl]))
  case h_6 m hl =>
    split
    · next he =>
      split
      · exact reach_leaveUpDown h (by simpa using he)
      · exact reach_modPort h (fun _ => rfl)
      · exact reach_runIdleTimer h
    · split
      · exact reach_modPort h (fun _ => rfl)
      · exact reach_modPort h (fun _ => rfl)
  case h_7 hl hm => exact reach_goDown h (.inl (by simp [hl]))
  case h_9 hl hm => exact reach_goDown h (.inl (by simp [hl]))
  all_goals exact h

theorem reach_settlePort (h : Reach s t) : Reach s (settlePort p t) := by
  refine reach_evalLamps ?_
  unfold checkBusy
  split
  · exact reach_wakeTable h
  · exact reach_clearBusy (reach_wakeTable h)

theorem reach_settle (h : Reach s t) : Reach s (settle t) :=
  settle_ind (P := Reach s) (fun _ _ h => reach_settlePort h) h

/-! ### Rewind and stall -/

theorem reach_rewindJob {j : Job} {l : List Flight} (h : Reach s t) : Reach s (rewindJob j l t) :=
  reach_starvedTest (reach_modJob (reach_setReservation h) (fun _ => ⟨rfl, rfl⟩))

theorem reach_rewind (h : Reach s t) : Reach s (rewind p t) := by
  have hr : Reach s (refreshWindow p (t.modPort p (fun x => { x with
      inFlight := [], transfer := [], watchdog := none }))) :=
    h.tail (.refresh p _ (fun _ => rfl) (fun _ => rfl) fun _ => rfl)
  unfold rewind
  dsimp only
  split
  · exact reach_rewindJob hr
  · exact hr

/-- A change of a job's state clears a busy flag at most. -/
theorem core_setJobState (n : Nat) (st : JobState) (r : JobReason) (q : PortNo) :
    ((setJobState n st r s).port q).core = (s.port q).core := by
  have hb (v : State) (p : PortNo) : ((clearBusy p v).port q).core = (v.port q).core := by
    rw [clearBusy, port_modPort]; split <;> rfl
  have hn : ((s.modJob n (fun j => { j with state := st })).noteJob n r).port q = s.port q := by simp [State.port]
  unfold setJobState
  split
  · rfl
  · split
    · rfl
    · dsimp only
      split
      · rw [hn]
      · split
        · rw [hb, hn]
        · rw [hn]

theorem core_starvedTest (n : Nat) (r : JobReason) (q : PortNo) :
    ((starvedTest n r s).port q).core = (s.port q).core := by
  unfold starvedTest
  split
  · rfl
  · split
    · exact core_setJobState ..
    · rfl

/-- A rewind empties the in-flight list (R109). -/
theorem rewind_inFlight (p : PortNo) : ((rewind p s).port p).inFlight = [] := by
  have h0 : ((refreshWindow p (s.modPort p (fun x => { x with
      inFlight := [], transfer := [], watchdog := none }))).port p).inFlight = [] := by
    simp [refreshWindow]
  unfold rewind
  dsimp only
  split
  · next j _ =>
    exact (Port.core_eq_iff.mp (core_starvedTest j.num .fault p)).2.2.2.1.trans h0
  · exact h0

theorem reach_countDoubtful {d : Nat} (h : Reach s t) : Reach s (countDoubtful p d t) := by
  unfold countDoubtful
  dsimp only
  split
  · exact reach_modPort h (fun _ => rfl)
  · exact reach_setAccount (reach_modJob (reach_modPort h (fun _ => rfl)) (fun _ => ⟨rfl, rfl⟩))

theorem reach_countSpoiled {d : Nat} (h : Reach s t) : Reach s (countSpoiled p d t) := by
  unfold countSpoiled
  dsimp only
  split
  · exact reach_modPort h (fun _ => rfl)
  · exact reach_setAccount (reach_modJob (reach_modPort h (fun _ => rfl)) (fun _ => ⟨rfl, rfl⟩))

theorem reach_stall {d : Nat} (h : Reach s t) : Reach s (stall p d t).1 :=
  reach_setLink (reach_rewind (reach_countDoubtful h)) nofun (.inr (rewind_inFlight p))

/-- The tail of a stall finds the link no longer UP (log 22). -/
theorem reach_stallTail {d : Nat} (h : Reach s t) (hl : (t.port p).link ≠ .up) : Reach s (stallTail p d t) := by
  have h' : Reach t (clearUp p (condOn p .stall (some d) t)) := reach_clearUp (reach_condOn .refl nofun)
  unfold stallTail
  dsimp only
  split
  · exact reach_goDown (h.trans h') (.inl (h'.not_up hl))
  · exact reach_beginAttempt (h.trans h')

/-! ### Tasks -/

/-- A task finds what it needs: the tail of a stall, a link that is not UP. -/
def Task.fits (s : State) : Task → Prop
  | .stallTail p _ => (s.port p).link ≠ .up
  | _ => True

theorem reach_runTask {k : Task} (hk : k.fits s) : Reach s (runTask k s).1 := by
  cases k with
  | pull p => exact reach_pull .refl
  | dispatch p => exact reach_dispatch .refl
  | offer n => exact reach_offerJob .refl
  | runEnd p c => exact reach_runEnd .refl
  | creditClear n => exact reach_creditClear .refl
  | jamOn p l => exact reach_condOn .refl nofun
  | stallTail p d =>
    have h : Reach s (stallTail p d s) := reach_stallTail .refl hk
    simpa only [runTask] using h
  | settle =>
    have h : Reach s (settle s) := reach_settle .refl
    simpa only [runTask] using h
  | note k c => exact reach_note .refl

/-- What a task needs stays there: no change brings a link UP. -/
theorem Task.fits_of_reach {k : Task} (h : Reach s t) (hk : k.fits s) : k.fits t := by
  cases k with
  | stallTail p d => exact h.not_up hk
  | _ => trivial

end

end Sys2Proof.Machine
end

section
/-! PROOF. An act is a chain of changes: the tasks an operation brings about are none that ask anything of a link, so
every task of an act finds what it needs. -/

namespace Sys2Proof.Machine

variable {s t u : State} {p : PortNo} {n : Nat} {j : Job} {r : JobReason}

/-- A list of tasks with no tail of a stall among them. -/
def PlainTasks (l : List Task) : Prop := ∀ k ∈ l, ∀ p d, k ≠ .stallTail p d

@[simp] theorem plainTasks_nil : PlainTasks [] := by simp [PlainTasks]

@[simp] theorem plainTasks_cons (k : Task) (l : List Task) :
    PlainTasks (k :: l) ↔ (∀ p d, k ≠ .stallTail p d) ∧ PlainTasks l := by simp [PlainTasks]

@[simp] theorem plainTasks_append (l m : List Task) : PlainTasks (l ++ m) ↔ PlainTasks l ∧ PlainTasks m := by
  simp [PlainTasks, or_imp, forall_and]

theorem fits_of_plain {l : List Task} (h : PlainTasks l) : ∀ k ∈ l, k.fits s := by
  intro k hk
  cases k with
  | stallTail p d => exact absurd rfl (h _ hk p d)
  | _ => trivial

@[simp] theorem plain_joinQueue : PlainTasks (joinQueue n r s).2 := by
  unfold joinQueue
  dsimp only
  split
  · simp
  · split <;> simp

@[simp] theorem plain_leaveSlot : PlainTasks (leaveSlot j s).2 := by
  unfold leaveSlot
  split
  · simp
  · split
    · simp
    · split <;> simp

@[simp] theorem plain_detach : PlainTasks (detach j s).2 := by
  unfold detach
  split <;> simp

@[simp] theorem plain_finishJob {st : JobState} : PlainTasks (finishJob j st r s).2 := by simp [finishJob]

@[simp] theorem plain_leaveSpooling : PlainTasks (leaveSpooling j s).2 := by
  unfold leaveSpooling
  split <;> simp

@[simp] theorem plain_beginDrain {v : Purpose} : PlainTasks (beginDrain p n v r s).2 := by simp [beginDrain]

@[simp] theorem plain_endDrain {c : EndCause} : PlainTasks (endDrain p j c s).2 := by
  unfold endDrain
  split
  · simp
  · dsimp only
    split
    · simp
    · split <;> simp

@[simp] theorem plain_runEnd {c : EndCause} : PlainTasks (runEnd p c s).2 := by
  unfold runEnd
  split
  · simp
  · split
    · split <;> simp
    · split
      · simp
      · split <;> simp

@[simp] theorem plain_creditStop : PlainTasks (creditStop p n s).2 := by simp [creditStop]

@[simp] theorem plain_creditClear : PlainTasks (creditClear n s).2 := by
  unfold creditClear
  split
  · simp
  · dsimp only
    split <;> simp

@[simp] theorem plain_insertAt : PlainTasks (insertAt p j s).2 := by
  unfold insertAt
  dsimp only
  split <;> simp

@[simp] theorem plain_offerJob : PlainTasks (offerJob n s).2 := by
  unfold offerJob
  split
  · simp
  · dsimp only
    split
    · simp
    · split
      · simp
      · split
        · split <;> simp
        · simp

@[simp] theorem plain_pullQueues : PlainTasks (pullQueues p s).2 := by
  unfold pullQueues
  split
  · simp
  · split
    · simp
    · split <;> simp [takeQueued]

@[simp] theorem plain_pull : PlainTasks (pull p s).2 := by
  unfold pull
  dsimp only
  split
  · simp
  · split
    · simp
    · split
      · split <;> simp
      · simp

@[simp] theorem plain_dispatch : PlainTasks (dispatch p s).2 := by
  unfold dispatch
  split
  · simp
  · split
    · simp
    · split
      · simp
      · dsimp only
        split <;> simp

@[simp] theorem plain_usableTasks : PlainTasks (usableTasks p s t) := by
  unfold usableTasks
  split <;> simp

@[simp] theorem plain_runTask {k : Task} : PlainTasks (runTask k s).2 := by
  cases k <;> simp [runTask]

/-! ### The cascade and the act -/

theorem reach_runTasks (fuel : Nat) (ts : List Task) (s : State) (h : ∀ k ∈ ts, k.fits s) :
    Reach s (runTasks fuel ts s) := by
  induction fuel generalizing ts s with
  | zero => exact .refl
  | succ fuel ih =>
    cases ts with
    | nil => exact .refl
    | cons k ts =>
      have hk : Reach s (runTask k s).1 := reach_runTask (h k (by simp))
      refine hk.trans (ih _ _ fun x hx => ?_)
      rcases List.mem_append.mp hx with hx | hx
      · exact fits_of_plain plain_runTask x hx
      · exact Task.fits_of_reach hk (h x (by simp [hx]))

/-- An event's end, in a state its tasks fit, is a chain of changes: the notices and the transmitter touch the message
link alone. -/
theorem reach_closeAct {ts : List Task} (h : Reach s t) (hts : ∀ k ∈ ts, k.fits t) : Reach s (closeAct (t, ts)) := by
  have hc : Reach s (cascade ts t) := h.trans (reach_runTasks _ _ _ hts)
  exact reach_frame hc (by simp [closeAct]) (by simp [closeAct]) (by simp [closeAct]) (by simp [closeAct])
    (by simp [closeAct]) (by simp [closeAct]) (by simp [closeAct]) (by simp [closeAct])

/-! ### What a request's owner answers -/

/-- The state that an answer of acceptance leaves is a chain of changes away, and its tasks are plain. -/
def Sound (s : State) : Answer → Prop
  | .ok r => Reach s r.st ∧ PlainTasks r.tasks
  | .error _ => True

@[simp] theorem sound_ok (r : Accepted) : Sound s (.ok r) ↔ Reach s r.st ∧ PlainTasks r.tasks := .rfl
@[simp] theorem sound_error (e : Status) : Sound s (.error e) := trivial
@[simp] theorem sound_accept (t : State) (ts : List Task) : Sound s (accept t ts) ↔ Reach s t ∧ PlainTasks ts := .rfl
@[simp] theorem sound_report (c : List Byte) : Sound s (report s c) := ⟨.refl, plainTasks_nil⟩

theorem sound_field {α : Type} {x : Option α} {k : α → Answer} (h : ∀ a, x = some a → Sound s (k a)) :
    Sound s (field x k) := by
  cases x with
  | none => trivial
  | some a => exact h a rfl

theorem sound_withJob {k : Job → Answer} (h : ∀ j, s.job? n = some j → Sound s (k j)) : Sound s (withJob s n k) := by
  unfold withJob
  split
  · trivial
  · exact h _ ‹_›

theorem sound_unlessSaving {k : Answer} (h : Sound s k) : Sound s (unlessSaving s k) := by
  unfold unlessSaving
  split
  · trivial
  · exact h

/-! ### Alerts, lamps and the horn -/

theorem sound_doAlertQuery (selector : Nat) : Sound s (doAlertQuery selector s) := by
  unfold doAlertQuery
  split
  · exact sound_report _
  · split
    · exact sound_field fun e _ => sound_report (s.entryReport e)
    · generalize selector - 128 = port
      exact sound_field fun p _ => sound_report (s.lampReport p)

theorem sound_doAckOne (b : AckBy) (e : EntryNo) : Sound s (doAckOne b e s) := by
  unfold doAckOne
  split
  · exact (sound_ok _).mpr ⟨reach_then .refl (.alertAck e b), plainTasks_nil⟩
  · trivial

theorem reach_ackAll : Reach s (ackAll s) :=
  List.foldlRecOn (motive := Reach s) s.au.announced _ .refl fun _ h e _ => h.tail (.alertAck e .host)

theorem sound_doAlertAck (entry : Nat) : Sound s (doAlertAck entry s) := by
  unfold doAlertAck
  split
  · split
    · trivial
    · exact ⟨reach_ackAll, plainTasks_nil⟩
  · exact sound_field fun e _ => sound_doAckOne .host e

theorem sound_doSilence : Sound s (doSilence s) := by
  unfold doSilence
  split
  · trivial
  · exact ⟨.single .silence, plainTasks_nil⟩

theorem portCfg_window_setPortCfg (p q : PortNo) (c : PortSettings) (h : c.window = (s.portCfg p).window) :
    ((s.setPortCfg p c).portCfg q).window = (s.portCfg q).window := by
  rw [portCfg_setPortCfg]
  split <;> simp_all

/-- The lamp mode of a port is no window. -/
theorem reach_setLampMode (p : PortNo) (host : Bool) :
    Reach s (s.setPortCfg p { s.portCfg p with lampHost := host }) :=
  reach_settings .refl rfl rfl fun q => portCfg_window_setPortCfg p q _ rfl

theorem sound_doLampMode (port mode : Nat) : Sound s (doLampMode port mode s) := by
  refine sound_unlessSaving (sound_field fun p _ => sound_field fun host _ => ?_)
  split
  · trivial
  · exact ⟨reach_evalLamps (reach_setLampMode p host), plainTasks_nil⟩

theorem sound_doLampSet (port red amber green : Nat) : Sound s (doLampSet port red amber green s) := by
  refine sound_field fun p _ => sound_field fun r _ => sound_field fun a _ => sound_field fun g _ => ?_
  split
  · trivial
  · exact (sound_accept _ _).mpr ⟨reach_modPort .refl (fun _ => rfl), plainTasks_nil⟩

/-! ### Spool -/

theorem sound_doSheetData (n : Nat) (data : List Byte) (hd : data.length ≤ 1024) : Sound s (doSheetData n data s) := by
  refine sound_withJob fun j _ => ?_
  split
  · trivial
  · split
    · trivial
    · next i hi =>
      split
      · trivial
      · split
        · trivial
        · next hb =>
          have hf : i.needsBlock data.length = true → s.smm.free ≠ [] := by
            intro hn he
            simp [hn, State.blockRefused, he] at hb
          have h := Change.append (s := s) n i data hi hd hf
          refine ⟨?_, plainTasks_nil⟩
          unfold storeData
          dsimp only
          split
          · next hn => exact (Relation.ReflTransGen.single h).tail .spoolLow
          · exact .single h

theorem reach_limitRaised (h : Reach s t) : Reach s (limitRaised n t).1 := reach_starvedTest h

@[simp] theorem plain_limitRaised : PlainTasks (limitRaised n s).2 := by
  unfold limitRaised
  dsimp only
  split <;> simp

theorem reach_imageCompleted (h : Reach s t) : Reach s (imageCompleted j t).1 := by
  unfold imageCompleted
  dsimp only
  split
  · split
    · exact reach_leaveSpooling (reach_modJob h (fun _ => ⟨rfl, rfl⟩))
    · exact reach_modJob h (fun _ => ⟨rfl, rfl⟩)
  · exact reach_limitRaised (reach_modJob h (fun _ => ⟨rfl, rfl⟩))

@[simp] theorem plain_imageCompleted : PlainTasks (imageCompleted j s).2 := by
  unfold imageCompleted
  dsimp only
  split
  · split <;> simp
  · simp

theorem sound_doSheetEnd (n sides offset : Nat) : Sound s (doSheetEnd n sides offset s) := by
  refine sound_withJob fun j _ => ?_
  split
  · trivial
  · split
    · trivial
    · next i hi =>
      split
      · trivial
      · exact ⟨reach_imageCompleted (.single (.complete n i sides offset hi)), by simp⟩

/-! ### Jobs -/

theorem lowestUnused_free {used : Nat → Bool} {fuel k r : Nat} (h : lowestUnused used fuel k = some r) :
    used r = false := by
  induction fuel generalizing k with
  | zero => cases h
  | succ fuel ih =>
    unfold lowestUnused at h
    split at h
    · exact ih h
    · next hu =>
      obtain rfl := Option.some.inj h
      exact Bool.eq_false_iff.mpr hu

/-- JOB_OPEN takes a record that is free, after it has freed one if it must (R35, R51). -/
theorem takeRecord_reach {t : State} {r : Nat} (h : takeRecord s = some (t, r)) :
    Reach s t ∧ t.jt.freeRecord = some r := by
  unfold takeRecord at h
  split at h
  · next hr => cases h; exact ⟨.refl, hr⟩
  · split at h
    · cases h
    · next n _ _ =>
      cases hf : (freeRecord n s).jt.freeRecord with
      | none => simp [hf] at h
      | some r' =>
        simp only [hf, Option.map_some, Option.some.injEq, Prod.mk.injEq] at h
        obtain ⟨rfl, rfl⟩ := h
        exact ⟨.single (.freeRecord n), hf⟩

theorem sound_doJobOpen (account dest cls priority copies options colour media size : Nat) :
    Sound s (doJobOpen account dest cls priority copies options colour media size s) := by
  refine sound_field fun a _ => sound_field fun d _ => sound_field fun rush _ => sound_field fun c _ =>
    sound_field fun m _ => sound_field fun z _ => ?_
  split
  · trivial
  · split
    · trivial
    · split
      · trivial
      · split
        · trivial
        · next t r hr =>
          obtain ⟨ht, hf⟩ := takeRecord_reach hr
          exact ⟨ht.tail (.addJob _ hf rfl), plainTasks_nil⟩

theorem reach_dataClosed (h : Reach s t) : Reach s (dataClosed j t).1 := by
  unfold dataClosed
  split
  · exact reach_finishJob h
  · split
    case h_1 => exact reach_leaveSpooling h
    case h_2 | h_3 => exact reach_limitRaised h
    all_goals exact h

@[simp] theorem plain_dataClosed : PlainTasks (dataClosed j s).2 := by
  unfold dataClosed
  split
  · simp
  · split <;> simp

theorem sound_doJobClose (n : Nat) : Sound s (doJobClose n s) := by
  refine sound_withJob fun j _ => ?_
  iterate 4 (split; · trivial)
  exact ⟨reach_dataClosed (reach_modJob .refl (fun _ => ⟨rfl, rfl⟩)), by simp⟩

theorem sound_doJobQuery (n : Nat) : Sound s (doJobQuery n s) := sound_withJob fun _ _ => sound_report _

theorem sound_doJobList (selector number : Nat) : Sound s (doJobList selector number s) := by
  unfold doJobList
  split
  · exact sound_field fun _ _ => sound_report _
  · exact sound_field fun _ _ => sound_report _
  · split <;> simp
  · trivial

theorem reach_holdEffect {w : Who} (h : Reach s t) : Reach s (holdEffect w j t).1 := by
  unfold holdEffect
  split
  case h_1 => exact reach_setJobState (reach_leaveQueue h)
  case h_2 | h_3 =>
    split
    · exact reach_beginDrain h
    · exact h
  case h_4 => exact reach_setJobState (reach_modJob (reach_leaveSlot h) (fun _ => ⟨rfl, rfl⟩))
  all_goals exact h

@[simp] theorem plain_holdEffect {w : Who} : PlainTasks (holdEffect w j s).2 := by
  unfold holdEffect
  split
  case h_2 | h_3 => split <;> simp
  all_goals simp

theorem sound_doHold (w : Who) (n : Nat) : Sound s (doHold w n s) := by
  refine sound_withJob fun j _ => ?_
  iterate 2 (split; · trivial)
  exact ⟨reach_holdEffect (reach_modJob .refl (fun _ => ⟨rfl, rfl⟩)), by simp⟩

theorem sound_doRelease (w : Who) (n : Nat) : Sound s (doRelease w n s) := by
  refine sound_withJob fun j _ => ?_
  iterate 2 (split; · trivial)
  dsimp only
  split
  · exact ⟨reach_joinQueue (reach_modJob .refl (fun _ => ⟨rfl, rfl⟩)), by simp⟩
  · exact ⟨reach_modJob .refl (fun _ => ⟨rfl, rfl⟩), plainTasks_nil⟩

theorem reach_cancelEffect {w : Who} (h : Reach s t) : Reach s (cancelEffect w j t).1 := by
  unfold cancelEffect
  split
  case h_1 | h_2 | h_3 => exact reach_setJobState (reach_modJob h (fun _ => ⟨rfl, rfl⟩))
  all_goals exact reach_finishJob h

@[simp] theorem plain_cancelEffect {w : Who} : PlainTasks (cancelEffect w j s).2 := by
  unfold cancelEffect
  split
  case h_1 | h_2 | h_3 => dsimp only; split <;> simp
  all_goals simp

theorem sound_doCancel (w : Who) (n : Nat) : Sound s (doCancel w n s) := by
  refine sound_withJob fun j _ => ?_
  split
  · trivial
  · exact ⟨reach_cancelEffect .refl, by simp⟩

theorem sound_doSuspend (w : Who) (n : Nat) : Sound s (doSuspend w n s) := by
  refine sound_withJob fun j _ => ?_
  split
  · trivial
  · split
    · trivial
    · next p _ =>
      split
      · trivial
      · exact ⟨reach_beginDrain (p := p) .refl, by simp⟩

theorem sound_doResume (w : Who) (n : Nat) : Sound s (doResume w n s) := by
  refine sound_withJob fun j _ => ?_
  split
  · trivial
  · split
    · split
      · refine ⟨?_, by simp⟩
        unfold resumeAt
        dsimp only
        split
        · exact reach_noteJob (reach_modPort .refl (fun _ => rfl))
        · exact reach_modPort .refl (fun _ => rfl)
      · trivial
    · trivial

theorem reach_moveJob {d : Fin 32} (h : Reach s t) : Reach s (moveJob j d t).1 := by
  unfold moveJob
  dsimp only
  split
  · exact reach_modJob (reach_detach h) (fun _ => ⟨rfl, rfl⟩)
  · exact reach_joinQueue (reach_modJob (reach_detach h) (fun _ => ⟨rfl, rfl⟩))

@[simp] theorem plain_moveJob {d : Fin 32} : PlainTasks (moveJob j d s).2 := by
  unfold moveJob
  dsimp only
  split <;> simp

theorem sound_doJobMove (n dest : Nat) : Sound s (doJobMove n dest s) := by
  refine sound_field fun d _ => sound_withJob fun j _ => ?_
  iterate 2 (split; · trivial)
  exact ⟨reach_moveJob .refl, by simp⟩

theorem sound_doJobForget (n : Nat) : Sound s (doJobForget n s) := by
  refine sound_withJob fun j _ => ?_
  split
  · exact ⟨.single (.freeRecord n), plainTasks_nil⟩
  · trivial

end Sys2Proof.Machine
end

section
/-! PROOF. What the owner of a request answers is a chain of changes (chapters 4, 6, 8, 9, 11, 12). -/

namespace Sys2Proof.Machine

variable {s t u : State} {p : PortNo} {n : Nat}

/-! ### Destinations -/

@[simp] theorem plain_queueOffer (d : Fin 32) : PlainTasks (queueOffer s d) := by
  unfold queueOffer
  split <;> simp [PlainTasks]

theorem reach_setDest {d : Fin 32} {x : Dest} (h : Reach s t) : Reach s (t.setDest d x) :=
  reach_settings h rfl rfl (fun _ => rfl)

theorem sound_doRouteSet (mask : Option RouteMask) (dest flags count : Nat) (members label : List Byte) :
    Sound s (doRouteSet mask dest flags count members label s) := by
  refine sound_unlessSaving (sound_field fun d _ => ?_)
  split
  · trivial
  · exact sound_field fun r _ => (sound_accept _ _).mpr ⟨reach_setDest .refl, by simp⟩

theorem sound_doRouteMask (mask : Nat) : Sound s (doRouteMask mask s) := by
  unfold doRouteMask
  split
  · trivial
  · exact (sound_accept _ _).mpr ⟨reach_frame .refl rfl rfl rfl rfl rfl rfl rfl rfl, plainTasks_nil⟩

theorem sound_doRouteQuery (dest : Nat) : Sound s (doRouteQuery dest s) := sound_field fun _ _ => sound_report _

/-! ### Ports -/

theorem reach_applyPortSet {c : PortSettings} : Reach s (applyPortSet p c s) := by
  have h : Reach s (refreshWindow p (s.setPortCfg p c)) := reach_then .refl (.portSet p c)
  unfold applyPortSet
  refine reach_evalLamps ?_
  split
  · exact reach_startRateWindow h
  · exact h

theorem sound_doPartWideSet (reserve threshold escalation zero1 zero2 : Nat) :
    Sound s (doPartWideSet reserve threshold escalation zero1 zero2 s) := by
  refine sound_unlessSaving ?_
  split
  · trivial
  · exact (sound_accept _ _).mpr ⟨reach_then .refl (.partWide reserve threshold escalation), plainTasks_nil⟩

theorem sound_doPortSet (port window progress wake idle rate slowFloor lampMode : Nat) :
    Sound s (doPortSet port window progress wake idle rate slowFloor lampMode s) := by
  unfold doPortSet
  split
  · exact sound_doPartWideSet ..
  · refine sound_unlessSaving (sound_field fun p _ => sound_field fun lamp _ => ?_)
    split
    · trivial
    · exact (sound_accept _ _).mpr ⟨reach_applyPortSet, by simp⟩

theorem sound_doPortQuery (port clear : Nat) : Sound s (doPortQuery port clear s) := by
  unfold doPortQuery
  split
  · exact sound_field fun _ _ => sound_report _
  · refine sound_field fun p _ => sound_field fun wipe _ => (sound_ok _).mpr ⟨?_, plainTasks_nil⟩
    dsimp only
    split
    · exact reach_modPort .refl (fun _ => rfl)
    · exact .refl

theorem sound_doPortWake (port mode : Nat) : Sound s (doPortWake port mode s) := by
  refine sound_field fun p _ => sound_field fun m _ => ?_
  split
  · trivial
  · exact (sound_accept _ _).mpr ⟨reach_wakeTable (reach_modPort .refl (fun _ => rfl)), by simp⟩

theorem sound_doPortPause (port : Nat) : Sound s (doPortPause port s) := by
  refine sound_field fun p _ => ?_
  split
  · trivial
  · exact (sound_accept _ _).mpr ⟨reach_settlePort (reach_modPort .refl (fun _ => rfl)), plainTasks_nil⟩

theorem sound_doPortUnpause (port : Nat) : Sound s (doPortUnpause port s) := by
  refine sound_field fun p _ => ?_
  split
  · trivial
  · exact (sound_accept _ _).mpr ⟨reach_modPort .refl (fun _ => rfl), by simp⟩

theorem sound_doPortRecover (port : Nat) : Sound s (doPortRecover port s) := by
  refine sound_field fun p _ => ?_
  split
  · next hl =>
    exact (sound_accept _ _).mpr ⟨reach_beginAttempt (reach_setLink .refl nofun (.inl (by simp [hl]))), plainTasks_nil⟩
  · exact (sound_accept _ _).mpr ⟨reach_beginAttempt .refl, plainTasks_nil⟩
  all_goals trivial

/-! ### Tariffs -/

/-- A sheet that is consistent passes its check (R122). -/
theorem Tariff.check_of_consistent {x : Tariff} (h : x.consistent = true) : x.check = 0 := by
  simpa [Tariff.consistent] using h

theorem sound_doTariffSet (item index value : Nat) : Sound s (doTariffSet item index value s) := by
  refine sound_unlessSaving ?_
  split
  · refine sound_field fun x _ => ?_
    split
    · trivial
    · next hx =>
      exact (sound_ok _).mpr ⟨reach_then .refl (.active x (x.check_of_consistent (by simpa using hx))), plainTasks_nil⟩
  · exact sound_field fun x _ => (sound_ok _).mpr ⟨reach_settings .refl rfl rfl (fun _ => rfl), plainTasks_nil⟩

theorem sound_doTariffMode (mode : Nat) : Sound s (doTariffMode mode s) := by
  refine sound_unlessSaving (sound_field fun d _ => ?_)
  split
  · trivial
  · exact (sound_accept _ _).mpr ⟨reach_settings .refl rfl rfl (fun _ => rfl), plainTasks_nil⟩

theorem sound_doTariffQuery (which : Nat) : Sound s (doTariffQuery which s) := sound_field fun _ _ => sound_report _

theorem plain_creditClears (l : List Job) : PlainTasks (l.map fun j => .creditClear j.num) := by simp [PlainTasks]

@[simp] theorem plain_clearTasks (a : Fin 128) : PlainTasks (s.clearTasks a) := plain_creditClears _

theorem reach_closeAll (h : Reach s t) : Reach s (closeAll t).1 := reach_settings h rfl rfl (fun _ => rfl)

@[simp] theorem plain_closeAll : PlainTasks (closeAll s).2 := by
  intro k hk
  obtain ⟨a, _, ha⟩ := List.mem_flatMap.mp hk
  exact plain_clearTasks a k ha

theorem reach_cutover {close : Bool} {source : Nat} (h : Reach s t) (ht : t.cfg.staged.consistent = true) :
    Reach s (cutover close source t).1 := by
  have h' : Reach s (({ t with cfg := { t.cfg with active := t.cfg.staged } }).note 0x73 (tariffEvent 0 source close)) :=
    reach_note (reach_then h (.active _ (Tariff.check_of_consistent ht)))
  unfold cutover
  dsimp only
  split
  · exact reach_closeAll h'
  · exact h'

@[simp] theorem plain_cutover {close : Bool} {source : Nat} : PlainTasks (cutover close source s).2 := by
  unfold cutover
  dsimp only
  split <;> simp

theorem sound_doCutover (action flags time : Nat) : Sound s (doCutover action flags time s) := by
  refine sound_unlessSaving (sound_field fun close _ => ?_)
  split
  · split
    · trivial
    · split
      · trivial
      · next hc => exact (sound_accept _ _).mpr ⟨reach_cutover .refl (by simpa using hc), by simp⟩
  · exact (sound_accept _ _).mpr ⟨reach_settings .refl rfl rfl (fun _ => rfl), plainTasks_nil⟩
  · split
    · trivial
    · split
      · trivial
      · exact (sound_accept _ _).mpr ⟨reach_settings .refl rfl rfl (fun _ => rfl), plainTasks_nil⟩
  · trivial

/-! ### Accounts -/

theorem sound_doAccountSet (account flags limit : Nat) : Sound s (doAccountSet account flags limit s) := by
  refine sound_unlessSaving (sound_field fun a _ => ?_)
  split
  · trivial
  · exact (sound_accept _ _).mpr ⟨reach_setAccount .refl, by simp⟩

theorem sound_doAccountQuery (account : Nat) : Sound s (doAccountQuery account s) :=
  sound_field fun _ _ => sound_report _

theorem sound_doAccountClose (account : Nat) : Sound s (doAccountClose account s) := by
  unfold doAccountClose
  split
  · exact (sound_accept _ _).mpr ⟨reach_closeAll .refl, by simp⟩
  · exact sound_field fun a _ => (sound_ok _).mpr ⟨reach_setAccount .refl, by simp⟩

/-! ### Panels -/

theorem reach_makeAbsent {a : Fin 8} (h : Reach s t) : Reach s (makeAbsent a t) := reach_note (reach_setPanel h)

theorem reach_unfit {a : Fin 8} (h : Reach s t) : Reach s (unfit a t) := by
  have h' : Reach s (if (t.panel a).present then makeAbsent a t else t) := by
    split
    · exact reach_makeAbsent h
    · exact h
  unfold unfit
  dsimp only
  split
  · split
    · exact reach_frame h' rfl rfl rfl rfl rfl rfl rfl rfl
    · exact h'
  · exact h'

theorem reach_setPanelCfg {a : Fin 8} {x : PanelSettings} (h : Reach s t) : Reach s (t.setPanelCfg a x) :=
  reach_settings h rfl rfl (fun _ => rfl)

theorem sound_doPanelSet (address level fitted : Nat) : Sound s (doPanelSet address level fitted s) := by
  refine sound_unlessSaving (sound_field fun a _ => sound_field fun r _ => sound_field fun f _ => ?_)
  refine (sound_accept _ _).mpr ⟨?_, plainTasks_nil⟩
  unfold applyPanelSet
  dsimp only
  split
  · exact reach_unfit (reach_setPanelCfg .refl)
  · split
    · exact reach_setPanelCfg .refl
    · exact reach_setPanel (reach_setPanelCfg .refl)

theorem sound_doPanelQuery (address : Nat) : Sound s (doPanelQuery address s) := by
  unfold doPanelQuery
  split
  · exact sound_report _
  · exact sound_field fun _ _ => sound_report _

/-! ### The message link and the settings store -/

theorem sound_doStatus : Sound s (doStatus s) :=
  (sound_ok _).mpr ⟨reach_frame .refl rfl rfl rfl rfl rfl rfl rfl rfl, plainTasks_nil⟩

theorem sound_doIdentify : Sound s (doIdentify s) := sound_report _

theorem sound_doClockSet (value : Nat) (h : value ≤ max32) : Sound s (doClockSet value s) :=
  (sound_accept _ _).mpr ⟨reach_then .refl (.restartSecond _ h), plainTasks_nil⟩

theorem sound_doSave : Sound s (doSave s) :=
  sound_unlessSaving ((sound_accept _ _).mpr ⟨reach_frame .refl rfl rfl rfl rfl rfl rfl rfl rfl, plainTasks_nil⟩)

theorem sound_doRestart (kind : Nat) : Sound s (doRestart kind s) := by
  refine sound_unlessSaving ?_
  split
  · exact (sound_accept _ _).mpr ⟨reach_frame .refl rfl rfl rfl rfl rfl rfl rfl rfl, plainTasks_nil⟩
  · exact (sound_accept _ _).mpr ⟨reach_frame .refl rfl rfl rfl rfl rfl rfl rfl rfl, plainTasks_nil⟩
  · trivial

/-! ### A request of any kind -/

/-- What the checks of the MLC let through (R5). -/
theorem mlcCheck_passes {kind tag : Byte} {length : Nat} (h : mlcCheck kind tag length = none) :
    tag ≠ 0 ∧ ∃ lo hi, kindLengths kind.toNat = some (lo, hi) ∧ lo ≤ length ∧ length ≤ hi := by
  unfold mlcCheck at h
  split at h
  · cases h
  · next ht =>
    split at h
    · cases h
    · next lo hi hk =>
      split at h
      · exact ⟨ht, lo, hi, hk, ‹_›⟩
      · cases h

/-- A four-byte field holds at most the largest 32-bit value. -/
theorem wordAt_le (p : List Byte) (i : Nat) : wordAt p i ≤ max32 := by
  have hb (k : Nat) : byteAt p k < 256 := (p.getD k 0).isLt
  have h0 := hb i
  have h1 := hb (i + 1)
  have h2 := hb (i + 2)
  have h3 := hb (i + 2 + 1)
  simp only [wordAt, halfAt, max32]
  omega

/-- Whatever the owner of a request answers, it is a chain of changes; the payload of a SHEET_DATA that the MLC lets
through brings at most 1,024 bytes (Table 1-3). -/
theorem sound_takeByKind {f : Frame} (mask : Option RouteMask)
    (hm : mlcCheck f.kind f.tag f.payload.length = none) : Sound s (takeByKind f.kind.toNat f.payload mask s) := by
  obtain ⟨_, lo, hi, hk, _, hl⟩ := mlcCheck_passes hm
  generalize f.kind.toNat = kind at hk
  unfold takeByKind
  split
  case h_1 => exact sound_doStatus
  case h_2 => exact sound_doIdentify
  case h_3 => exact sound_doClockSet _ (wordAt_le ..)
  case h_4 => exact sound_doSave
  case h_5 => exact sound_doRestart _
  case h_6 => exact sound_doJobOpen ..
  case h_7 =>
    cases hk
    exact sound_doSheetData _ _ (by rw [List.length_drop]; omega)
  case h_8 => exact sound_doSheetEnd ..
  case h_9 => exact sound_doJobClose _
  case h_10 => exact sound_doJobQuery _
  case h_11 => exact sound_doJobList ..
  case h_12 => exact sound_doHold ..
  case h_13 => exact sound_doRelease ..
  case h_14 => exact sound_doCancel ..
  case h_15 => exact sound_doSuspend ..
  case h_16 => exact sound_doResume ..
  case h_17 => exact sound_doJobMove ..
  case h_18 => exact sound_doJobForget _
  case h_19 => exact sound_doRouteSet ..
  case h_20 => exact sound_doRouteMask _
  case h_21 => exact sound_doRouteQuery _
  case h_22 => exact sound_doPortSet ..
  case h_23 => exact sound_doPortQuery ..
  case h_24 => exact sound_doPortWake ..
  case h_25 => exact sound_doPortPause _
  case h_26 => exact sound_doPortUnpause _
  case h_27 => exact sound_doPortRecover _
  case h_28 => exact sound_doTariffSet ..
  case h_29 => exact sound_doTariffQuery _
  case h_30 => exact sound_doTariffMode _
  case h_31 => exact sound_doCutover ..
  case h_32 => exact sound_doAccountSet ..
  case h_33 => exact sound_doAccountQuery _
  case h_34 => exact sound_doAccountClose _
  case h_35 => exact sound_doAlertQuery _
  case h_36 => exact sound_doAlertAck _
  case h_37 => exact sound_doSilence
  case h_38 => exact sound_doLampMode ..
  case h_39 => exact sound_doLampSet ..
  case h_40 => exact sound_doPanelSet ..
  case h_41 => exact sound_doPanelQuery _
  case h_42 => trivial

end Sys2Proof.Machine
end

section
/-! PROOF. Every step is a chain of changes, of the moments of the time base, of links that come UP and of resets; what
each of them keeps, every step keeps (R10, R11, R89, R167). -/

namespace Sys2Proof.Machine

variable {s t u : State} {p : PortNo}

/-- A change, or what happens in a step outside of requests and tasks. -/
inductive Jump (s : State) : State → Prop
  | change {t : State} (h : Change s t) : Jump s t
  | openAct : Jump s (openAct s)
  | linkUp (p : PortNo) (f : Port → Port) (hl : (s.port p).link ≠ .up) (hf : ∀ x, (f x).link = x.link)
      (hw : ∀ x, (f x).effWindow = x.effWindow) (hi : ∀ x, (f x).inFlight = x.inFlight)
      (hc : ∀ x, (f x).conds = x.conds) : Jump s (setLink p .up (s.modPort p f))
  | second : Jump s (countSecond s)
  | escalate (e : EntryNo) : Jump s (escalate e s)
  | cold (size : Fin 4) (stored : Option SettingsImage) : Jump s (coldStart size stored s)
  | warm : Jump s (warmStart s)

/-- A chain of jumps. -/
abbrev Jumps : State → State → Prop := Relation.ReflTransGen Jump

theorem Jumps.refl : Jumps s s := Relation.ReflTransGen.refl

theorem jumps_then (h : Jumps s t) (hu : Reach t u) : Jumps s u :=
  h.trans (Relation.ReflTransGen.mono (fun _ _ => .change) _ _ hu)

theorem Reach.jumps (h : Reach s t) : Jumps s t := jumps_then .refl h

/-- What every jump keeps, a chain of them keeps. -/
theorem Jumps.keeps {P : State → Prop} (hP : ∀ s t, Jump s t → P s → P t) (h : Jumps s t) (hs : P s) : P t := by
  induction h with
  | refl => exact hs
  | tail _ hc ih => exact hP _ _ hc ih

/-- An event's state is a chain of jumps away, and its tasks find what they need. -/
def Sane (s : State) (r : State × List Task) : Prop := Jumps s r.1 ∧ ∀ k ∈ r.2, k.fits r.1

theorem sane_of_reach {r : State × List Task} (h : Reach s r.1) (hp : PlainTasks r.2) : Sane s r :=
  ⟨h.jumps, fits_of_plain hp⟩

theorem sane_jump {r : State × List Task} (h : Jump s t) (hr : Reach t r.1) (hp : PlainTasks r.2) : Sane s r :=
  ⟨jumps_then (.single h) hr, fits_of_plain hp⟩

@[simp] theorem sane_idle : Sane s (s, []) := sane_of_reach .refl plainTasks_nil

theorem Sane.closes {r : State × List Task} (h : Sane s r) : Jumps s (closeAct r) :=
  jumps_then h.1 (reach_closeAct .refl h.2)

/-! ### The events of the message link -/

theorem reach_mlc {m : Mlc} (h : Reach s t) (hm : m.clock = t.mlc.clock) : Reach s { t with mlc := m } :=
  reach_frame h rfl rfl rfl rfl rfl rfl rfl hm

theorem reach_answer {f : Frame} {st : Status} {c : List Byte} (h : Reach s t) : Reach s (answer f st c t) := reach_mlc h rfl

theorem sane_present (f : Frame) : Sane s (present f (takeByKind f.kind.toNat f.payload) s) := by
  have hc : Reach s (consumeMask s) := reach_frame .refl rfl rfl rfl rfl rfl rfl rfl rfl
  unfold present
  split
  · exact sane_of_reach (reach_mlc .refl rfl) plainTasks_nil
  · split
    · exact sane_of_reach (reach_mlc .refl rfl) plainTasks_nil
    · unfold takeRequest
      dsimp only
      split
      · exact sane_of_reach (reach_answer hc) plainTasks_nil
      · next hm =>
        have ha := sound_takeByKind (s := consumeMask s) s.dt.routeMask hm
        split
        · exact sane_of_reach (reach_answer hc) plainTasks_nil
        · next r hr =>
          rw [hr, sound_ok] at ha
          exact sane_of_reach (reach_answer (hc.trans ha.1)) ha.2

theorem sane_restartNow (k : RestartKind) : Sane s (restartNow k s) := by
  unfold restartNow
  split
  · exact sane_jump (.cold s.smm.sizeClass s.ss.stored) (reach_then .refl .spoolLow) (by simp [endReset])
  · exact sane_jump .warm (reach_then .refl .spoolLow) (by simp [endReset])

theorem sane_endFrame : Sane s (endFrame s) := by
  unfold endFrame
  split
  · exact sane_restartNow _
  · refine sane_of_reach (reach_mlc .refl ?_) plainTasks_nil
    unfold Mlc.sent
    split <;> rfl

/-! ### The clock and the settings store -/

theorem reach_examineSchedule : Reach s (examineSchedule s).1 := by
  unfold examineSchedule
  split
  · exact .refl
  · next x _ =>
    split
    · have h : Reach s { s with cfg := { s.cfg with schedule := none } } := reach_settings .refl rfl rfl (fun _ => rfl)
      unfold scheduleDue
      dsimp only
      split
      · next hc => exact reach_cutover h hc
      · exact reach_note h
    · exact .refl

theorem plain_examineSchedule : PlainTasks (examineSchedule s).2 := by
  unfold examineSchedule
  split
  · simp
  · split
    · unfold scheduleDue
      dsimp only
      split <;> simp
    · simp

theorem sane_tick : Sane s (examineSchedule (countSecond s)) :=
  sane_jump .second reach_examineSchedule plain_examineSchedule

theorem reach_saveEnds {agrees : Bool} : Reach s (saveEnds agrees s) := by
  unfold saveEnds
  split
  · exact .refl
  · split
    · exact reach_note (reach_frame .refl rfl rfl rfl rfl rfl rfl rfl rfl)
    · exact reach_note (reach_frame .refl rfl rfl rfl rfl rfl rfl rfl rfl)

/-! ### Frames from a printer -/

theorem modPort_id : s.modPort p id = s := by simp [State.modPort, State.setPort, State.port]


theorem sane_stall {d : Nat} : Sane s (stall p d s) := by
  refine ⟨(reach_stall .refl).jumps, ?_⟩
  have hl : ((stall p d s).1.port p).link ≠ .up := by
    simp only [stall, port_setLink]
    split
    · exact Link.noConfusion
    · next h => simp only [true_and, not_not] at h; rw [h]; exact Link.noConfusion
  simpa [stall, Task.fits] using hl

theorem sane_onHello (caps : Caps) (window : Nat) : Sane s (onHello p caps window s) := by
  unfold onHello
  split
  case h_3 hl =>
    split
    · refine sane_of_reach (reach_startRateWindow ?_) ?_
      · exact reach_then .refl (.refresh p _ (fun _ => rfl) (fun _ => rfl) (fun h => absurd hl h))
      · split <;> simp
    · exact sane_stall
  case h_4 | h_5 => exact sane_idle
  all_goals
    next hl =>
    refine sane_jump (.linkUp p (fun x => { x with
        caps := some caps, maxWindow := some window, wakeTimer := none, hailTimer := false, attempt := none })
      (by simp [hl]) (fun _ => rfl) (fun _ => rfl) (fun _ => rfl) fun _ => rfl) ?_ (by simp)
    unfold comeUp
    refine reach_condOff (reach_condOff (reach_condOff (reach_startRateWindow ?_) nofun) nofun) nofun
    have hr : Change _ _ := .refresh (s := setLink p .up (s.modPort p fun x => { x with
        caps := some caps, maxWindow := some window, wakeTimer := none, hailTimer := false, attempt := none }))
      p id (fun _ => rfl) (fun _ => rfl) (fun h => absurd (by simp [port_setLink, hl]) h)
    rw [modPort_id] at hr
    exact .single hr

theorem reach_startWatchdog (h : Reach s t) : Reach s (startWatchdog p t) := reach_modPort h (fun _ => rfl)

/-- Marking the newest record leaves the list as long as it is. -/
theorem markNewest_length (st : FlightStage) (l : List Flight) : (markNewest st l).length = l.length := by
  cases l with
  | nil => rfl
  | cons f fs => simp [markNewest, List.getLast?_cons]

theorem reach_mark (st : FlightStage) (f : List Frame → List Frame) (h : Reach s t) :
    Reach s (t.modPort p (fun x => { x with inFlight := markNewest st x.inFlight, transfer := f x.transfer })) :=
  reach_then h (.flights p _ (fun _ => rfl) (fun _ => ⟨rfl, rfl⟩) (fun _ => rfl) (.inl (markNewest_length ..)))

theorem sane_onTaken (tag : Byte) : Sane s (onTaken p tag s) := by
  unfold onTaken
  split
  · exact sane_idle
  · split
    · exact sane_of_reach (reach_startWatchdog (reach_mark .taken id .refl)) (by simp)
    · exact sane_stall

theorem reach_deliver {f : Flight} {rest : List Flight} (hl : (s.port p).link = .up) : Reach s (deliver p f rest s) := by
  have hc : Reach s (match s.job? f.job with
      | some j => chargeAccount j.account f.charge f.sides s
      | none => s) := by
    split
    · exact reach_setReservation (reach_setAccount .refl)
    · exact .refl
  have hp (u : State) (hu : (u.port p).link = .up) : Reach u (portDelivers p f rest u) := by
    have hr := reach_then .refl (.refresh (s := u) p (fun x => { x with
        inFlight := rest
        meters := { x.meters with
          sheets := satAdd max32 x.meters.sheets 1, impressions := satAdd max32 x.meters.impressions f.sides }
        rateCount := satAdd max8 x.rateCount 1 }) (fun _ => rfl) (fun _ => rfl) (fun h => absurd hu h))
    unfold portDelivers
    dsimp only
    split
    · exact reach_startWatchdog hr
    · exact reach_modPort hr (fun _ => rfl)
  refine (reach_modJob (n := f.job) (f := fun j => j.delivers f) hc (fun _ => ⟨rfl, rfl⟩)).trans (hp _ ?_)
  split
  · simpa [State.port, chargeAccount, release] using hl
  · exact hl

theorem sane_onOut (tag : Byte) : Sane s (onOut p tag s) := by
  unfold onOut
  split
  · exact sane_idle
  · next hl =>
    split
    · split
      · exact sane_of_reach (reach_deliver (by simpa using hl)) (by simp)
      · exact sane_stall
    · exact sane_stall

theorem sane_jamFirst (location spoiled : Nat) : Sane s (jamFirst p location spoiled s) := by
  unfold jamFirst
  exact sane_of_reach (reach_setCondition (reach_rewind (reach_countSpoiled .refl))) (by simp)

theorem sane_onJam (location spoiled : Nat) : Sane s (onJam p location spoiled s) := by
  unfold onJam
  split
  · exact sane_idle
  · split
    · exact sane_of_reach (reach_then .refl (.alertRepeat ..)) plainTasks_nil
    · exact sane_jamFirst ..

theorem sane_onClear : Sane s (onClear p s) := by
  unfold onClear
  split
  · exact sane_of_reach (reach_condOff (reach_setCondition .refl) nofun) (by simp)
  · exact sane_idle

theorem sane_onState (ready door : Bool) (mask : Byte) : Sane s (onState p ready door mask s) := by
  unfold onState
  split
  · exact sane_of_reach (reach_evalMedia (reach_evalDoor (reach_setCondition .refl))) (by simp)
  · exact sane_idle

theorem sane_pressFrame (f : Frame) : Sane s (pressFrame p f s) := by
  have h := pressFrame_report p f
  generalize pressFrame p f = e at h ⊢
  cases h with
  | hello tag c d m z w =>
    unfold helloFrame
    split
    · exact sane_onHello ..
    · exact sane_idle
  | taken tag => exact sane_onTaken tag
  | out tag => exact sane_onOut tag
  | jam tag l n =>
    unfold jamFrame
    split
    · exact sane_idle
    · exact sane_onJam ..
  | clear tag => exact sane_onClear
  | state tag r d m =>
    unfold stateFrame
    split
    · exact sane_onState ..
    · exact sane_idle
  | none h => exact sane_idle

theorem reach_transferEnds : Reach s (transferEnds p s) := by
  unfold transferEnds
  split
  · exact reach_startWatchdog (reach_frame (reach_mark .sent (fun _ => []) .refl) rfl rfl rfl rfl rfl rfl rfl rfl)
  · exact .refl

/-! ### The timers of a port -/

theorem reach_hailAgain : Reach s (hailAgain p s) := by
  unfold hailAgain
  split
  · exact reach_send .refl
  · exact .refl

theorem reach_wakeFails : Reach s (wakeFails p s) := by
  unfold wakeFails
  split
  · next h => exact reach_condOn (reach_modPort (reach_setLink .refl nofun (.inl (by simp [h.1]))) (fun _ => rfl)) nofun
  · exact .refl

theorem reach_sleepNow : Reach s (sleepNow p s).1 := by
  unfold sleepNow
  split
  · next h => exact reach_leaveUpDown .refl (by simpa using h.2.1)
  · exact .refl

theorem plain_sleepNow : PlainTasks (sleepNow p s).2 := by
  unfold sleepNow
  split <;> simp

theorem sane_watchdogExpires : Sane s (watchdogExpires p s) := by
  unfold watchdogExpires
  split
  · exact sane_stall
  · exact sane_idle

theorem reach_attemptExpires : Reach s (attemptExpires p s) := by
  unfold attemptExpires
  split
  · next hl _ =>
    split
    · exact reach_beginAttempt .refl
    · exact reach_condOn (reach_modPort (reach_setLink .refl nofun (.inl (by simp [hl]))) (fun _ => rfl)) nofun
  · exact .refl

theorem reach_rateWindowEnds : Reach s (rateWindowEnds p s) := by
  have h : Reach s (s.modPort p (fun x => { x with latchedRate := x.rateCount })) := reach_modPort .refl (fun _ => rfl)
  unfold rateWindowEnds
  dsimp only
  split
  · refine reach_startRateWindow ?_
    split
    · exact reach_condOn h nofun
    · exact reach_condOff h nofun
  · exact .refl

/-! ### The panel bus -/

theorem reach_endExchange (h : Reach s t) : Reach s (endExchange t) := reach_frame h rfl rfl rfl rfl rfl rfl rfl rfl

theorem reach_pollNext : Reach s (pollNext s) := by
  unfold pollNext
  split
  · exact reach_frame .refl rfl rfl rfl rfl rfl rfl rfl rfl
  · exact .refl

theorem reach_miss {a : Fin 8} : Reach s (miss a s) := by
  unfold miss
  dsimp only
  split
  · exact reach_endExchange .refl
  · split
    · exact reach_makeAbsent (reach_endExchange .refl)
    · exact reach_setPanel (reach_endExchange .refl)

theorem reach_onTimeout : Reach s (onTimeout s) := by
  unfold onTimeout
  split
  · exact .refl
  · exact reach_miss

theorem reach_goodReply {a : Fin 8} : Reach s (goodReply a s) := by
  unfold goodReply
  dsimp only
  split
  · exact reach_setPanel (reach_endExchange .refl)
  · exact reach_note (reach_setPanel (reach_endExchange .refl))

theorem sound_ownerAction (a : Fin 8) (code argument : Nat) : Sound s (ownerAction a code argument s) := by
  unfold ownerAction
  split
  case h_1 => exact sound_field fun e _ => sound_doAckOne (.panel a) e
  case h_2 => exact sound_doSilence
  case h_3 =>
    refine sound_field fun p _ => ?_
    unfold panelPauses
    split
    · trivial
    · exact (sound_accept _ _).mpr ⟨reach_settlePort (reach_modPort .refl (fun _ => rfl)), plainTasks_nil⟩
  case h_4 =>
    refine sound_field fun p _ => ?_
    unfold panelUnpauses
    split
    · trivial
    · exact (sound_accept _ _).mpr ⟨reach_modPort .refl (fun _ => rfl), by simp⟩
  case h_5 => exact sound_doHold ..
  case h_6 => exact sound_doRelease ..
  case h_7 => exact sound_doSuspend ..
  case h_8 => exact sound_doResume ..
  case h_9 => exact sound_doCancel ..
  case h_10 => trivial

theorem sound_panelAction (a : Fin 8) (code argument : Nat) : Sound s (panelAction a code argument s) := by
  unfold panelAction
  split
  · trivial
  · split
    · trivial
    · exact sound_ownerAction ..

theorem sane_decideAnswer (a : Fin 8) (code number : Byte) (argument : Nat) :
    Sane s (decideAnswer a code number argument s) := by
  unfold decideAnswer
  split
  · exact sane_idle
  · split
    · exact sane_idle
    · have ha := sound_panelAction (s := s) a code.toNat argument
      split
      · exact sane_of_reach (reach_setPanel .refl) (by simp [recordAction])
      · next r hr =>
        rw [hr, sound_ok] at ha
        exact sane_of_reach (reach_setPanel ha.1) (by simp [recordAction, ha.2])

theorem sane_onAnswer (tag code number : Byte) (argument : Half) : Sane s (onAnswer tag code number argument s) := by
  unfold onAnswer
  split
  · exact sane_idle
  · next ex _ =>
    split
    · have h := sane_decideAnswer (s := goodReply ex.panel s) ex.panel code number argument.toNat
      exact ⟨reach_goodReply.jumps.trans h.1, h.2⟩
    · exact sane_of_reach reach_miss plainTasks_nil

theorem sane_onReplyFrame (checkHolds : Bool) (kind tag : Byte) (payload : List Byte) :
    Sane s (onReplyFrame checkHolds kind tag payload s) := by
  unfold onReplyFrame
  split
  · exact sane_idle
  · split
    · split
      · exact sane_onAnswer ..
      · exact sane_of_reach reach_miss plainTasks_nil
    · exact sane_of_reach reach_miss plainTasks_nil

/-! ### Events and steps -/

theorem Event.sane {e : State → State × List Task} (h : Event e) (s : State) : Sane s (e s) := by
  cases h with
  | request f => exact sane_present f
  | tooLong => exact sane_of_reach (reach_mlc .refl rfl) plainTasks_nil
  | reset strap touched => exact sane_jump (.cold _ _) (reach_then .refl .spoolLow) (by simp [powerReset, endReset])
  | tick => exact sane_tick
  | tickDue =>
    dsimp only
    split
    · exact sane_tick
    · exact sane_idle
  | frameSent => exact sane_endFrame
  | restartBegin =>
    dsimp only
    split
    · exact sane_restartNow _
    · exact sane_idle
  | saveEnd agrees => exact sane_of_reach reach_saveEnds plainTasks_nil
  | pressFrame p f => exact sane_pressFrame f
  | transferEnd p => exact sane_of_reach reach_transferEnds plainTasks_nil
  | hailTimer p => exact sane_of_reach reach_hailAgain plainTasks_nil
  | wakeTimer p => exact sane_of_reach reach_wakeFails plainTasks_nil
  | idleTimer p => exact sane_of_reach reach_sleepNow plain_sleepNow
  | watchdog p => exact sane_watchdogExpires
  | attemptTimer p => exact sane_of_reach reach_attemptExpires plainTasks_nil
  | rateWindow p => exact sane_of_reach reach_rateWindowEnds plainTasks_nil
  | escalation e => exact sane_jump (.escalate e) .refl plainTasks_nil
  | poll => exact sane_of_reach reach_pollNext plainTasks_nil
  | pollTimeout => exact sane_of_reach reach_onTimeout plainTasks_nil
  | answer tag code number argument => exact sane_onAnswer ..
  | replyFrame checkHolds kind tag payload => exact sane_onReplyFrame ..

theorem jumps_openAct (h : Jumps s t) : Jumps s (openAct t) := h.tail .openAct

theorem jumps_hostByte (h : Jumps s t) (b : Byte) : Jumps s (hostByte t b) := by
  have ht : Jumps s { t with mlc := { t.mlc with rx := (rxByte t.mlc.rx b).1 } } := jumps_then h (reach_mlc .refl rfl)
  unfold hostByte
  dsimp only
  split
  · exact ht
  · exact jumps_then ht (reach_mlc .refl rfl)
  · exact ht.trans (sane_present _).closes

theorem jumps_pressByte (h : Jumps s t) (b : Byte) : Jumps s (pressByte p t b) := by
  have ht : Jumps s (t.modPort p (fun x => { x with rx := (rxByte (t.port p).rx b).1 })) :=
    jumps_then h (reach_modPort .refl (fun _ => rfl))
  unfold pressByte
  dsimp only
  split
  · exact ht
  · exact ht
  · exact ht.trans (sane_pressFrame _).closes

theorem jumps_exec {i : Instr} (h : exec i s = .next t) : Jumps s t := by
  obtain ⟨e, he, hx⟩ | ⟨bytes, hx⟩ | ⟨p, bytes, hx⟩ := exec_cases i s
  · obtain rfl := Host.Outcome.next.inj (h.symm.trans hx)
    exact (jumps_openAct .refl).trans (he.sane _).closes
  · obtain rfl := Host.Outcome.next.inj (h.symm.trans hx)
    exact List.foldlRecOn (motive := Jumps s) bytes _ (jumps_openAct .refl) fun _ h b _ => jumps_hostByte h b
  · obtain rfl := Host.Outcome.next.inj (h.symm.trans hx)
    exact List.foldlRecOn (motive := Jumps s) bytes _ (jumps_openAct .refl) fun _ h b _ => jumps_pressByte h b

/-- Every step is a chain of jumps. -/
theorem jumps_step (h : step s = .next t) : Jumps s t := by
  unfold step at h
  split at h
  · obtain rfl := Host.Outcome.next.inj h
    exact .refl
  · have hs : Reach s { s with pending := (by assumption : List Instr) } := reach_frame .refl rfl rfl rfl rfl rfl rfl rfl rfl
    exact hs.jumps.trans (jumps_exec h)

/-- What every jump keeps, every step keeps. -/
theorem step_keeps {P : State → Prop} (hP : ∀ s t, Jump s t → P s → P t) (h : step s = .next t) (hs : P s) : P t :=
  (jumps_step h).keeps hP hs

end Sys2Proof.Machine
end

section
/-! PROOF. The ACTIVE sheet stays consistent (R122): only an edit, a cutover and a reset write it. -/

namespace Sys2Proof.Machine

variable {s t : State}

/-- Contents within their ranges hold a consistent ACTIVE sheet (R167). -/
theorem Settings.active_of_valid {g : Settings} (h : g.valid = true) : g.active.check = 0 := by
  simp only [Settings.valid, Bool.and_eq_true] at h
  obtain ⟨⟨⟨⟨_, hc⟩, _⟩, _⟩, _⟩ := h
  exact Tariff.check_of_consistent hc

/-- The settings that a start-up load takes hold a consistent ACTIVE sheet (R167). -/
theorem loadImage_active (stored : Option SettingsImage) : (loadImage stored).1.active.check = 0 := by
  obtain ⟨m, _, _, hv, h⟩ | h := loadImage_cases stored
  · rw [h]; exact m.contents.active_of_valid hv
  · rw [h]; decide

/-- A change leaves the ACTIVE sheet as it is, or makes a consistent sheet ACTIVE (R123, R127). -/
theorem Change.active_or (h : Change s t) : t.cfg.active = s.cfg.active ∨ t.cfg.active.check = 0 := by
  cases h with
  | same h => exact .inl h.active
  | active x hx => exact .inr hx
  | partWide r l e => exact .inl (by simp [setPartWide])
  | portSet p c => exact .inl rfl
  | refresh p f _ _ _ => exact .inl (by simp [refreshWindow])
  | silence => exact .inl (by simp)
  | modJob | addJob | freeRecord | dropImages | append | complete | restartSecond => exact .inl rfl
  | spoolLow | condOn | condOff | alertRepeat | alertAck | setLink | flights => exact .inl (by simp)

theorem Jump.activeConsistent (h : Jump s t) (hs : ActiveConsistent s) : ActiveConsistent t := by
  cases h with
  | change h =>
    obtain h | h := h.active_or
    · exact (congrArg Tariff.check h).trans hs
    · exact h
  | cold size stored => exact loadImage_active stored
  | warm => exact hs
  | openAct => exact hs
  | second => exact hs
  | linkUp p f => exact (congrArg (fun g : Settings => g.active.check) (by simp)).trans hs
  | escalate e =>
    unfold Machine.escalate
    dsimp only
    split <;> exact hs

/-- Settles O57: every step is a chain of jumps, and each of them leaves the ACTIVE sheet consistent. -/
theorem activeStaysConsistent : Obligations.ActiveStaysConsistent :=
  fun _ _ hs h => step_keeps (fun _ _ => Jump.activeConsistent) h hs

end Sys2Proof.Machine
end

section
/-! PROOF. The effective window follows its rule, and only UP links have sheets in flight (R99 to R101). -/

namespace Sys2Proof.Machine

variable {s t : State} {x y : Port} {w : Nat}

/-- The window rule and the in-flight rule at one port whose configured window is `w`. -/
def Port.windowed (x : Port) (w : Nat) : Prop := x.effWindow = x.windowNow w ∧ (x.link ≠ .up → x.inFlight = [])

/-- The effective window is never less than what is in flight (R99). -/
theorem Port.windowed.fits (h : x.windowed w) : x.inFlight.length ≤ x.effWindow := by
  obtain ⟨he, hn⟩ := h
  by_cases hl : x.link = .up
  · rw [he, Port.windowNow, if_pos hl]; exact Nat.le_max_right ..
  · simp [hn hl]

theorem windowsHold_iff : WindowsHold s ↔ ∀ p, (s.port p).windowed (s.portCfg p).window :=
  ⟨fun h p => ⟨(h p).1, (h p).2.1⟩, fun h p => ⟨(h p).1, (h p).2, (h p).fits⟩⟩

/-- The rules ask only for link, windows and in-flight list. -/
theorem Port.windowed_congr (h1 : y.link = x.link) (h2 : y.maxWindow = x.maxWindow) (h3 : y.effWindow = x.effWindow)
    (h4 : y.inFlight = x.inFlight) : y.windowed w ↔ x.windowed w := by
  simp [Port.windowed, Port.windowNow, h1, h2, h3, h4]

/-- A port whose window has just been computed follows the rule. -/
theorem Port.windowed_refresh (h : x.link ≠ .up → x.inFlight = []) :
    ({ x with effWindow := x.windowNow w } : Port).windowed w := ⟨rfl, h⟩

/-- A record that joins the list where the window has room leaves the window (R99, R101). -/
theorem Port.windowed_grow (hx : x.windowed w) (hl : x.link = .up) (hr : x.inFlight.length < x.effWindow)
    (h1 : y.link = x.link) (h2 : y.maxWindow = x.maxWindow) (h3 : y.effWindow = x.effWindow)
    (h4 : y.inFlight.length = x.inFlight.length + 1) : y.windowed w := by
  have he := hx.1
  simp only [Port.windowNow, if_pos hl] at he
  refine ⟨?_, fun h => absurd (h1.trans hl) h⟩
  simp only [Port.windowNow, h1, if_pos hl, h2, h3, h4]
  omega

/-- One port is rewritten, and the rules hold of it as it is then. -/
theorem windowsHold_modPort {p : PortNo} {f : Port → Port} (hs : WindowsHold s)
    (hp : (f (s.port p)).windowed (s.portCfg p).window) : WindowsHold (s.modPort p f) := by
  rw [windowsHold_iff] at hs ⊢
  intro q
  rw [port_modPort, show (s.modPort p f).portCfg q = s.portCfg q by simp [State.portCfg]]
  split
  · next h => subst h; exact hp
  · exact hs q

/-- The window of one port is computed, and the rules hold of the others. -/
theorem windowsHold_refreshWindow {p : PortNo} (ho : ∀ q, q ≠ p → (s.port q).windowed (s.portCfg q).window)
    (hp : (s.port p).link ≠ .up → (s.port p).inFlight = []) : WindowsHold (refreshWindow p s) := by
  rw [windowsHold_iff]
  intro q
  rw [refreshWindow, port_modPort, show (s.modPort p fun x => { x with
    effWindow := x.windowNow (s.portCfg p).window }).portCfg q = s.portCfg q by simp [State.portCfg]]
  split
  · next h => subst h; exact Port.windowed_refresh hp
  · next h => exact ho q h

/-- The window of a port that has just been rewritten is computed. -/
theorem windowsHold_refresh {p : PortNo} {f : Port → Port} (hs : WindowsHold s)
    (hp : (f (s.port p)).link ≠ .up → (f (s.port p)).inFlight = []) :
    WindowsHold (refreshWindow p (s.modPort p f)) := by
  refine windowsHold_refreshWindow (fun q hq => ?_) ?_
  · rw [port_modPort, if_neg hq]
    simpa [State.portCfg] using windowsHold_iff.mp hs q
  · simpa using hp

theorem windowsHold_setLink {p : PortNo} {l : Link} (hs : WindowsHold s)
    (hp : l ≠ .up → (s.port p).inFlight = []) : WindowsHold (setLink p l s) := by
  unfold setLink
  split
  · exact hs
  · have hn : (s.modPort p (fun x => { x with link := l })).notePort p
        = { s.modPort p (fun x => { x with link := l }) with
            notes := ((s.modPort p (fun x => { x with link := l })).notePort p).notes } := by
      unfold State.notePort
      split <;> rfl
    rw [hn]
    exact windowsHold_refresh (f := fun x => { x with link := l }) hs hp

theorem Change.windowsHold (h : Change s t) (hs : WindowsHold s) : WindowsHold t := by
  have hw := windowsHold_iff.mp hs
  have dressed (u : State) (hc : u.cfg = s.cfg ∨ ∀ q, (u.portCfg q).window = (s.portCfg q).window)
      (hp : ∀ q, ∃ l c, u.port q = { s.port q with lamps := l, conds := c }) : WindowsHold u := by
    rw [windowsHold_iff]
    intro q
    obtain ⟨l, c, hq⟩ := hp q
    have hcw : (u.portCfg q).window = (s.portCfg q).window := hc.elim (fun h => by simp [State.portCfg, h]) (· q)
    rw [hcw, hq]
    exact hw q
  cases h with
  | modJob | addJob | freeRecord | dropImages | append | complete | active | silence | restartSecond => exact hs
  | same h =>
    rw [windowsHold_iff]
    intro q
    obtain ⟨h1, h2, h3, h4, _⟩ := Port.core_eq_iff.mp (h.core q)
    rw [h.window, Port.windowed_congr h1 h2 h3 h4]
    exact hw q
  | spoolLow => exact dressed _ (.inl (by simp)) fun q => (port_evalSpoolLow q).imp fun l hl => ⟨_, hl⟩
  | condOn p k d hk => exact dressed _ (.inl (by simp)) fun q => port_condOn s p q k d
  | condOff p k hk => exact dressed _ (.inl (by simp)) fun q => port_condOff s p q k
  | alertRepeat e d => exact dressed _ (.inl (by simp)) fun q => (port_alertRepeat e d q).imp fun l hl => ⟨_, hl⟩
  | alertAck e b => exact dressed _ (.inl (by simp)) fun q => (port_alertAck e b q).imp fun l hl => ⟨_, hl⟩
  | partWide r l e =>
    refine dressed _ (.inr fun q => by simp [State.portCfg, setPartWide]) fun q => ?_
    obtain ⟨m, hm⟩ := port_evalSpoolLow (s := setPartWide r l e s) q
    exact ⟨m, (s.port q).conds, hm⟩
  | setLink p l hl h => exact windowsHold_setLink hs fun _ => h.elim (hw p).2 id
  | portSet p c =>
    have hp (q : PortNo) : (s.setPortCfg p c).port q = s.port q := by simp [State.port]
    refine windowsHold_refreshWindow (fun q hq => ?_) ?_
    · rw [hp, portCfg_setPortCfg, if_neg hq]; exact hw q
    · rw [hp]; exact (hw p).2
  | refresh p f hl hc h => exact windowsHold_refresh hs (by rwa [hl])
  | flights p f hl hm hc h =>
    refine windowsHold_modPort hs ?_
    obtain ⟨h1, h2⟩ := hm (s.port p)
    obtain h | ⟨hu, hr, hn⟩ := h
    · have h0 : (s.port p).inFlight = [] → (f (s.port p)).inFlight = [] := by
        intro he; rw [he] at h; exact List.eq_nil_of_length_eq_zero h
      obtain ⟨he, hi⟩ := hw p
      refine ⟨?_, fun hl' => h0 (hi (by rwa [hl] at hl'))⟩
      rw [h2, he]
      simp only [Port.windowNow, hl, h1, h]
    · exact Port.windowed_grow (hw p) hu hr (hl _) h1 h2 hn

/-- A port that a reset leaves, meters apart. -/
theorem Port.windowed_reset (m : Meters) : ({ meters := m } : Port).windowed w := ⟨rfl, fun _ => rfl⟩

theorem Jump.windowsHold (h : Jump s t) (hs : WindowsHold s) : WindowsHold t := by
  cases h with
  | change h => exact h.windowsHold hs
  | openAct | second => exact hs
  | cold size stored =>
    refine windowsHold_iff.mpr fun p => ?_
    have hp : (coldStart size stored s).port p = {} := by simp [coldStart, State.boot, State.port]
    rw [hp]; exact Port.windowed_reset {}
  | warm =>
    refine windowsHold_iff.mpr fun p => ?_
    have hp : (warmStart s).port p = { meters := (s.port p).meters } := by simp [warmStart, State.port]
    rw [hp]; exact Port.windowed_reset _
  | linkUp p f hl hf he hi hc =>
    have hw := windowsHold_iff.mp hs p
    refine windowsHold_setLink (windowsHold_modPort hs ?_) fun h => absurd rfl h
    refine ⟨?_, fun _ => (hi _).trans (hw.2 hl)⟩
    rw [he, hw.1, Port.windowNow, if_neg hl, Port.windowNow, if_neg (by rwa [hf])]
  | escalate e =>
    unfold Machine.escalate
    dsimp only
    split <;> exact hs

/-- Settles O59: every step is a chain of jumps, and each of them leaves both rules at every port. -/
theorem windowsKept : Obligations.WindowsKept :=
  fun _ _ hs h => step_keeps (fun _ _ => Jump.windowsHold) h hs

end Sys2Proof.Machine
end

section
/-! PROOF. The transitions of an alert entry (Table 10-2, R147 to R157). -/

namespace Sys2Proof.Machine

variable {s t : State} {p q : PortNo} {e : EntryNo}

/-- What the lamps of a port show does not depend on the lamps that stand. -/
theorem lampsNow_evalLamps (p q : PortNo) : (evalLamps p s).lampsNow q = s.lampsNow q := by
  obtain ⟨l, hl⟩ := port_evalLamps s p q
  have hr : (evalLamps p s).runJob q = s.runJob q := by
    simp only [State.runJob, hl]
    exact congrArg _ (funext fun n => job?_congr (by simp))
  have ha (k : List AlertKind) (f : AlertState → Bool) : (evalLamps p s).anyEntry q k f = s.anyEntry q k f := by
    simp [State.anyEntry, State.alert]
  simp only [State.lampsNow, State.runRunning, hr, ha, hl]
  rfl

/-- The lamps of port `p` become what they show now, in lamp mode AUTO (R154, R155). -/
theorem port_evalLamps_eq (p q : PortNo) : (evalLamps p s).port q = { s.port q with
    lamps := if q = p ∧ (s.portCfg q).lampHost = false then s.lampsNow q else (s.port q).lamps } := by
  unfold evalLamps
  split
  · next h =>
    have : ¬ (q = p ∧ (s.portCfg q).lampHost = false) := by rintro ⟨rfl, hf⟩; simp [h] at hf
    rw [if_neg this]
  · next h =>
    rw [port_modPort]
    split
    · next hq => subst hq; simp [h]
    · next hq => simp [hq]

theorem alert_congr (h : t.au = s.au) (x : EntryNo) : t.alert x = s.alert x := by simp [State.alert, h]

/-- The horn that a transition leaves (R156). -/
theorem horn_moved (a : Alert) (list : List EntryNo) (raises : Bool) (code : Nat) :
    (moved e a list raises code s).au.horn = true
      ↔ s.cfg.escalation ≠ 0 ∧ (moved e a list raises code s).au.silenced = false
        ∧ ∃ x, ((moved e a list raises code s).alert x).state = .raised
          ∧ ((moved e a list raises code s).alert x).raisedAt + s.cfg.escalation * Config.second ≤ s.base.now :=
  hornNow_iff

/-- A transition in the terms of R148, R150, R151, R154, R156 and R157. -/
theorem alertMove_moves (e : EntryNo) (a : Alert) (list : List EntryNo) (raises : Bool) (code : Nat) (s : State) :
    AlertMoves s (alertMove e a list raises code s) e a list raises code := by
  have halert (x : EntryNo) : (moved e a list raises code s).alert x = if x = e then a else s.alert x :=
    alert_setAlert (s := s) e x a
  cases hp : portOf e with
  | none =>
    rw [alertMove_none hp]
    exact ⟨by simp [halert], fun x hx => by simp [halert, hx], rfl, rfl, rfl, horn_moved .., rfl, rfl, rfl, rfl, rfl,
      rfl, rfl, rfl, rfl, rfl, rfl, rfl, fun _ _ => rfl, fun q hq => by rw [hp] at hq; cases hq⟩
  | some p =>
    have hau : (evalLamps p (moved e a list raises code s)).au = (moved e a list raises code s).au := by simp
    have ha (x : EntryNo) : (evalLamps p (moved e a list raises code s)).alert x
        = (moved e a list raises code s).alert x := alert_congr hau x
    rw [alertMove_some hp]
    refine ⟨by simp [ha, halert], fun x hx => by simp [ha, halert, hx], by rw [hau]; rfl, by simp; rfl, by rw [hau]; rfl,
      ?_, by simp; rfl, by simp; rfl, by simp; rfl, by simp; rfl, by simp; rfl, by simp; rfl, by simp; rfl, by simp; rfl,
      by simp; rfl, by simp; rfl, by simp; rfl, by simp; rfl, fun q hq => ?_, fun q hq => ?_⟩
    · simp only [hau, ha]
      exact horn_moved ..
    · have hqp : q ≠ p := fun h => hq (by rw [h, hp])
      simp only [port_evalLamps_eq, hqp, false_and, if_false]
      rfl
    · obtain rfl : p = q := Option.some.inj (hp.symm.trans hq)
      have hport : (moved e a list raises code s).port p = s.port p := rfl
      have hcfg : (moved e a list raises code s).portCfg p = s.portCfg p := rfl
      rw [port_evalLamps_eq, lampsNow_evalLamps, hport, hcfg]
      cases (s.portCfg p).lampHost
      · rw [if_pos ⟨rfl, rfl⟩]; rfl
      · rw [if_neg fun h => Bool.noConfusion h.2]; rfl

/-- A latched kind is one of the first four of a port (R146). -/
theorem kindOf_latched (e : EntryNo) : (kindOf e).latched = true ↔ e.val % 7 < 4 ∧ e.val ≠ 112 := by
  revert e; decide

/-- Settles O50: each report and acknowledgement is one transition, or a write of condition and detail alone. -/
theorem alertTransitions : Obligations.AlertTransitions := by
  intro s e detail by_
  have hlatched : (kindOf e).latched = decide (e.val % 7 < 4 ∧ e.val ≠ 112) := by
    rw [Bool.eq_iff_iff, kindOf_latched, decide_eq_true_eq]
  have hkept : (detail.orElse fun _ => (s.alert e).detail)
      = (match detail with
        | some d => some d
        | none => (s.alert e).detail) := by cases detail <;> rfl
  refine ⟨fun h => ?_, fun h => ?_, fun h hl => ?_, fun h hl => ?_, fun h => ?_, fun d h => ?_, fun d h => ?_, fun h => ?_,
    fun h => ?_, fun h => ?_, fun h => ?_, fun h => ⟨?_, fun d => ?_⟩⟩
  · simp only [alertOn, h, Alert.raise, hkept]; exact alertMove_moves ..
  · simp only [alertOn, h, Alert.raise, hkept]; exact alertMove_moves ..
  · simp only [alertOff, h, hlatched, decide_eq_true hl, if_true]; exact alertMove_moves ..
  · simp only [alertOff, h, hlatched, decide_eq_false hl, Bool.false_eq_true, if_false]; exact alertMove_moves ..
  · simp only [alertOff, h]; exact alertMove_moves ..
  · simp only [alertRepeat, h, Alert.raise]; exact alertMove_moves ..
  · simp only [alertRepeat, h]; exact alertMove_moves ..
  · simp only [alertAck, h]; exact alertMove_moves ..
  · simp only [alertAck, h]; exact alertMove_moves ..
  · obtain h | h := h <;> simp only [alertAck, h]
  · obtain h | h := h <;> simp only [alertOn, h, hkept] <;> rfl
  · obtain h | h := h <;> simp only [alertOff, h]
  · obtain h | h := h <;> simp only [alertRepeat, h]

end Sys2Proof.Machine
end

section
/-! PROOF. Alert table, announcement list, sources and horn stay in agreement (R111, R148, R150, R156), and no entry was
raised after the moment of the time base. -/

namespace Sys2Proof.Machine

variable {s t u : State} {e x : EntryNo} {a : Alert}

/-- The entry stands on the announcement list (R150). -/
def Alert.announces (a : Alert) : Prop := a.state = .raised ∨ a.state = .linger

/-- From `s` to `t` entry `e` alone becomes `a`, and the announcement list, the horn and the moment of the raise follow
it. -/
structure Notified (s t : State) (e : EntryNo) (a : Alert) : Prop where
  entry : ∀ x, t.alert x = if x = e then a else s.alert x
  list : t.au.announced = s.au.announced ∧ (a.announces ↔ (s.alert e).announces)
    ∨ t.au.announced = s.au.announced ++ [e] ∧ a.announces ∧ ¬ (s.alert e).announces
    ∨ t.au.announced = s.au.announced.erase e ∧ ¬ a.announces
  agrees : (s.alert e).agrees (kindOf e).latched → a.agrees (kindOf e).latched
  horn : HornFollows s → HornFollows t
  raisedAt : a.raisedAt = (s.alert e).raisedAt ∨ a.raisedAt = s.base.now ∨ a.raisedAt = 0
  cfg : t.cfg = s.cfg
  base : t.base = s.base

theorem notified_moves {list : List EntryNo} {raises : Bool} {code : Nat} (h : AlertMoves s t e a list raises code)
    (hl : list = s.au.announced ∧ (a.announces ↔ (s.alert e).announces)
      ∨ list = s.au.announced ++ [e] ∧ a.announces ∧ ¬ (s.alert e).announces
      ∨ list = s.au.announced.erase e ∧ ¬ a.announces)
    (ha : (s.alert e).agrees (kindOf e).latched → a.agrees (kindOf e).latched)
    (hr : a.raisedAt = (s.alert e).raisedAt ∨ a.raisedAt = s.base.now ∨ a.raisedAt = 0) : Notified s t e a := by
  obtain ⟨hae, hax, han, _, _, hh, _, _, _, _, _, _, hc, _, hb, _⟩ := h
  refine ⟨fun x => ?_, by rwa [han], ha, fun _ => ?_, hr, hc, hb⟩
  · split
    · next h => rw [h, hae]
    · next h => exact hax x h
  · rw [HornFollows, hc, hb]; exact hh

/-- Condition and detail alone are written. -/
theorem notified_setAlert (h1 : a.state = (s.alert e).state) (h2 : a.raisedAt = (s.alert e).raisedAt)
    (ha : (s.alert e).agrees (kindOf e).latched → a.agrees (kindOf e).latched) :
    Notified s (s.setAlert e a) e a := by
  have entry (x : EntryNo) : (s.setAlert e a).alert x = if x = e then a else s.alert x := alert_setAlert ..
  refine ⟨entry, .inl ⟨rfl, by simp [Alert.announces, h1]⟩, ha, fun h => ?_, .inl h2, rfl, rfl⟩
  have hx (x : EntryNo) : ((s.setAlert e a).alert x).state = (s.alert x).state
      ∧ ((s.setAlert e a).alert x).raisedAt = (s.alert x).raisedAt := by
    rw [entry]
    split
    · next h => rw [h]; exact ⟨h1, h2⟩
    · exact ⟨rfl, rfl⟩
  unfold HornFollows at h ⊢
  simp only [hx]
  exact h

section
variable (e : EntryNo) (s : State)

theorem notified_alertOn (d : Option Nat) : ∃ a, Notified s (alertOn e d s) e a ∧ a.on = true := by
  obtain ⟨hq, hl, _, _, _, _, _, _, _, _, hs, _⟩ := alertTransitions s e d .host
  cases h : (s.alert e).state with
  | quiet => exact ⟨_, notified_moves (hq h) (.inr (.inl ⟨rfl, by simp [Alert.announces], by simp [Alert.announces, h]⟩))
      (fun _ => rfl) (.inr (.inl rfl)), rfl⟩
  | linger => exact ⟨_, notified_moves (hl h) (.inl ⟨rfl, by simp [Alert.announces, h]⟩) (fun _ => rfl)
      (.inr (.inl rfl)), rfl⟩
  | raised => rw [hs (.inl h)]; exact ⟨_, notified_setAlert rfl rfl fun _ => by simp [Alert.agrees, h], rfl⟩
  | acked => rw [hs (.inr h)]; exact ⟨_, notified_setAlert rfl rfl fun _ => by simp [Alert.agrees, h], rfl⟩

theorem notified_alertOff : ∃ a, Notified s (alertOff e s) e a ∧ a.on = false := by
  obtain ⟨_, _, hr, hn, ha, _, _, _, _, _, _, hs⟩ := alertTransitions s e none .host
  cases h : (s.alert e).state with
  | raised =>
    by_cases hl : e.val % 7 < 4 ∧ e.val ≠ 112
    · exact ⟨_, notified_moves (hr h hl) (.inl ⟨rfl, by simp [Alert.announces, h]⟩)
        (fun _ => ⟨rfl, (kindOf_latched e).mpr hl⟩) (.inr (.inr rfl)), rfl⟩
    · exact ⟨_, notified_moves (hn h hl) (.inr (.inr ⟨rfl, by simp [Alert.announces]⟩)) (fun _ => rfl)
        (.inr (.inr rfl)), rfl⟩
  | acked => exact ⟨_, notified_moves (ha h) (.inl ⟨rfl, by simp [Alert.announces, h]⟩) (fun _ => rfl) (.inl rfl), rfl⟩
  | quiet => rw [(hs (.inl h)).1]; exact ⟨_, notified_setAlert rfl rfl fun _ => by simp [Alert.agrees, h], rfl⟩
  | linger =>
    rw [(hs (.inr h)).1]
    refine ⟨_, notified_setAlert rfl rfl fun hp => ?_, rfl⟩
    simp only [Alert.agrees, h] at hp ⊢
    exact ⟨trivial, hp.2⟩

theorem notified_alertRepeat (d : Nat) : ∃ a, Notified s (alertRepeat e d s) e a ∧ a.on = (s.alert e).on := by
  obtain ⟨_, _, _, _, _, hc, hr, _, _, _, _, hs⟩ := alertTransitions s e none .host
  cases h : (s.alert e).state with
  | acked => exact ⟨_, notified_moves (hc d h) (.inr (.inl ⟨rfl, by simp [Alert.announces], by simp [Alert.announces, h]⟩))
      (fun hp => by simpa [Alert.agrees, h] using hp) (.inr (.inl rfl)), rfl⟩
  | raised => exact ⟨_, notified_moves (hr d h) (.inl ⟨rfl, by simp [Alert.announces, h]⟩)
      (fun hp => by simpa [Alert.agrees, h] using hp) (.inl rfl), rfl⟩
  | quiet =>
    rw [(hs (.inl h)).2]
    exact ⟨_, notified_setAlert rfl rfl fun hp => by simpa [Alert.agrees, h] using hp, rfl⟩
  | linger =>
    rw [(hs (.inr h)).2]
    exact ⟨_, notified_setAlert rfl rfl fun hp => by simpa [Alert.agrees, h] using hp, rfl⟩

/-- An acknowledgement leaves everything, or makes its transition. -/
theorem notified_alertAck (b : AckBy) :
    alertAck e b s = s ∨ ∃ a, Notified s (alertAck e b s) e a ∧ a.on = (s.alert e).on := by
  obtain ⟨_, _, _, _, _, _, _, hr, hl, hn, _, _⟩ := alertTransitions s e none b
  cases h : (s.alert e).state with
  | raised => exact .inr ⟨_, notified_moves (hr h) (.inr (.inr ⟨rfl, by simp [Alert.announces]⟩))
      (fun hp => by simpa [Alert.agrees, h] using hp) (.inr (.inr rfl)), rfl⟩
  | linger => exact .inr ⟨_, notified_moves (hl h) (.inr (.inr ⟨rfl, by simp [Alert.announces]⟩))
      (fun hp => by
        simp only [Alert.agrees, h] at hp ⊢
        exact hp.1) (.inl rfl), rfl⟩
  | quiet => exact .inl (hn (.inl h))
  | acked => exact .inl (hn (.inr h))

end

/-! ### The alert table -/

theorem Notified.alertTable (h : Notified s t e a) (hs : AlertTable s) : AlertTable t := by
  obtain ⟨hag, hnd, hmem⟩ := hs
  have hx (x : EntryNo) : (t.alert x).announces ↔ if x = e then a.announces else (s.alert x).announces := by
    rw [h.entry]
    split <;> rfl
  refine ⟨fun x => ?_, ?_, fun x => ?_⟩
  · rw [h.entry]
    split
    · next hx => subst hx; exact h.agrees (hag x)
    · exact hag x
  · obtain ⟨hl, _⟩ | ⟨hl, _, hn⟩ | ⟨hl, _⟩ := h.list
    · rwa [hl]
    · rw [hl]
      exact List.nodup_append_comm.mp (List.nodup_cons.mpr ⟨fun hm => hn ((hmem e).mp hm), hnd⟩)
    · rw [hl]; exact hnd.erase e
  · change _ ↔ (t.alert x).announces
    rw [hx]
    obtain ⟨hl, ha⟩ | ⟨hl, ha, _⟩ | ⟨hl, ha⟩ := h.list
    · rw [hl, hmem]
      split
      · next hx => subst hx; exact ha.symm
      · rfl
    · rw [hl, List.mem_append, List.mem_singleton, hmem]
      split
      · next hx => simp [hx, ha]
      · next hx => simp [hx, Alert.announces]
    · rw [hl, hnd.mem_erase_iff, hmem]
      split
      · next hx => simp [hx, ha]
      · next hx => simp [hx, Alert.announces]

/-! ### Sources -/

/-- The kind of a port's entry is the kind it was made for (R146). -/
theorem kindOf_entryNo (p : PortNo) (k : AlertKind) : kindOf (entryNo p k) = k := by
  cases k <;> revert p <;> decide

theorem entryNo_inj {p q : PortNo} {k l : AlertKind} (hk : k ≠ .spoolLow) (hl : l ≠ .spoolLow) :
    entryNo p k = entryNo q l ↔ p = q ∧ k = l := by
  refine ⟨fun h => ⟨?_, ?_⟩, fun ⟨h1, h2⟩ => by rw [h1, h2]⟩
  · exact Option.some.inj ((portOf_entryNo p k hk).symm.trans ((congrArg portOf h).trans (portOf_entryNo q l hl)))
  · rw [← kindOf_entryNo p k, h, kindOf_entryNo]

theorem entryNo_ne_spoolLow {p : PortNo} {k : AlertKind} (hk : k ≠ .spoolLow) : entryNo p k ≠ spoolLowEntry :=
  fun h => hk ((kindOf_entryNo p k).symm.trans (congrArg kindOf h))

theorem Conds.get_set (c : Conds) (k l : AlertKind) (v : Bool) (hl : l ≠ .spoolLow) :
    (c.set k v).get l = if l = k then v else c.get l := by
  revert hl
  cases k <;> cases l <;> simp [Conds.get, Conds.set]

/-- A source that turns its condition to `v` tells its entry the same. -/
theorem sourcesAgree_cond {p : PortNo} {k : AlertKind} {v : Bool} (hs : SourcesAgree s) (hk : k ≠ .spoolLow)
    (hu : u = s.modPort p (fun x => { x with conds := x.conds.set k v }))
    (hn : Notified u t (entryNo p k) a) (ha : a.on = v)
    (hp : ∀ q, ∃ l, t.port q = { u.port q with lamps := l }) (hl : t.smm = s.smm) : SourcesAgree t := by
  obtain ⟨hc, hlow⟩ := hs
  have hua (x : EntryNo) : u.alert x = s.alert x := by rw [hu]; exact alert_congr (by simp) x
  refine ⟨fun q l hl' => ?_, ?_⟩
  · obtain ⟨m, hm⟩ := hp q
    rw [hn.entry, hua, hm]
    simp only [hu, port_modPort, entryNo_inj hl' hk]
    by_cases hq : q = p
    · subst hq
      simp only [true_and, if_true, Conds.get_set _ k l v hl']
      split
      · exact ha
      · exact hc q l hl'
    · simp only [hq, false_and, if_false]
      exact hc q l hl'
  · rw [hn.entry, if_neg (entryNo_ne_spoolLow hk).symm, hua, hl, hlow]

/-- A report that changes no condition. -/
theorem Notified.sourcesAgree (hn : Notified s t e a) (ha : a.on = (s.alert e).on) (hs : SourcesAgree s)
    (hp : ∀ q, ∃ l, t.port q = { s.port q with lamps := l }) (hl : t.smm = s.smm) : SourcesAgree t := by
  have hon (x : EntryNo) : (t.alert x).on = (s.alert x).on := by
    rw [hn.entry]
    split
    · next h => rw [h, ha]
    · rfl
  refine ⟨fun q l hk => ?_, by rw [hon, hl]; exact hs.2⟩
  obtain ⟨m, hm⟩ := hp q
  rw [hon, hm]
  exact hs.1 q l hk

/-- The alert table and the sources. -/
def Agreed (s : State) : Prop := AlertTable s ∧ SourcesAgree s

theorem agreed_condOn (p : PortNo) (k : AlertKind) (d : Option Nat) (hk : k ≠ .spoolLow) (hs : Agreed s) :
    Agreed (condOn p k d s) := by
  unfold condOn
  split
  · exact hs
  · obtain ⟨a, hn, ha⟩ := notified_alertOn (entryNo p k) (s.modPort p (fun x => { x with conds := x.conds.set k true })) d
    exact ⟨hn.alertTable hs.1, sourcesAgree_cond hs.2 hk rfl hn ha (fun q => port_alertOn _ _ _ q) (by simp)⟩

theorem agreed_condOff (p : PortNo) (k : AlertKind) (hk : k ≠ .spoolLow) (hs : Agreed s) : Agreed (condOff p k s) := by
  unfold condOff
  split
  · obtain ⟨a, hn, ha⟩ := notified_alertOff (entryNo p k) (s.modPort p (fun x => { x with conds := x.conds.set k false }))
    exact ⟨hn.alertTable hs.1, sourcesAgree_cond hs.2 hk rfl hn ha (fun q => port_alertOff _ _ q) (by simp)⟩
  · exact hs

/-- SPOOL_LOW turns to `v`, and its entry is told the same. -/
theorem agreed_spoolLow {v : Bool} (hs : Agreed s) (hn : Notified { s with smm := { s.smm with low := v } } t
    spoolLowEntry a) (ha : a.on = v) (hp : ∀ q, ∃ l, t.port q = { s.port q with lamps := l })
    (hl : t.smm = { s.smm with low := v }) : Agreed t := by
  refine ⟨hn.alertTable hs.1, fun q l hk => ?_, ?_⟩
  · obtain ⟨m, hm⟩ := hp q
    rw [hn.entry, if_neg (entryNo_ne_spoolLow hk), hm]
    exact hs.2.1 q l hk
  · rw [hn.entry, if_pos rfl, ha, hl]

theorem agreed_evalSpoolLow (hs : Agreed s) : Agreed (evalSpoolLow s) := by
  unfold evalSpoolLow
  split
  · exact hs
  · dsimp only
    split
    · next h =>
      rw [h]
      obtain ⟨a, hn, ha⟩ := notified_alertOn spoolLowEntry { s with smm := { s.smm with low := true } }
        (some s.smm.free.length)
      exact agreed_spoolLow hs hn ha (fun q => port_alertOn _ _ _ q) (by simp)
    · next h =>
      rw [Bool.eq_false_iff.mpr h]
      obtain ⟨a, hn, ha⟩ := notified_alertOff spoolLowEntry { s with smm := { s.smm with low := false } }
      exact agreed_spoolLow hs hn ha (fun q => port_alertOff _ _ q) (by simp)

/-- The agreement is about the alert entries, the announcement list, the conditions and SPOOL_LOW alone. -/
theorem agreed_congr (hs : Agreed s) (h1 : t.au.alerts = s.au.alerts) (h2 : t.au.announced = s.au.announced)
    (h3 : ∀ q, (t.port q).conds = (s.port q).conds) (h4 : t.smm.low = s.smm.low) : Agreed t := by
  have ha (x : EntryNo) : t.alert x = s.alert x := by simp [State.alert, h1]
  obtain ⟨⟨hag, hnd, hmem⟩, hc, hl⟩ := hs
  exact ⟨⟨fun x => by rw [ha]; exact hag x, by rwa [h2], fun x => by rw [h2, ha]; exact hmem x⟩,
    fun q k hk => by rw [ha, h3]; exact hc q k hk, by rw [ha, h4]; exact hl⟩

theorem Change.agreed (h : Change s t) (hs : Agreed s) : Agreed t := by
  cases h with
  | same h =>
    exact agreed_congr hs (by rw [h.au]) (by rw [h.au]) (fun q => (Port.core_eq_iff.mp (h.core q)).2.2.2.2)
      (by rw [h.smm])
  | condOn p k d hk => exact agreed_condOn p k d hk hs
  | condOff p k hk => exact agreed_condOff p k hk hs
  | spoolLow => exact agreed_evalSpoolLow hs
  | alertRepeat e d =>
    obtain ⟨a, hn, ha⟩ := notified_alertRepeat e s d
    exact ⟨hn.alertTable hs.1, hn.sourcesAgree ha hs.2 (fun q => port_alertRepeat e d q) (by simp)⟩
  | alertAck e b =>
    obtain h | ⟨a, hn, ha⟩ := notified_alertAck e s b
    · rwa [h]
    · exact ⟨hn.alertTable hs.1, hn.sourcesAgree ha hs.2 (fun q => port_alertAck e b q) (by simp)⟩
  | partWide r l e =>
    have h : Agreed (evalSpoolLow (setPartWide r l e s)) :=
      agreed_evalSpoolLow (agreed_congr hs rfl rfl (fun _ => rfl) rfl)
    exact agreed_congr h rfl rfl (fun _ => rfl) rfl
  | setLink p l _ _ =>
    refine agreed_congr hs (by simp) (by simp) (fun q => ?_) (by simp)
    rw [port_setLink]
    split
    · next h => rw [h.1]
    · rfl
  | portSet p c =>
    refine agreed_congr hs rfl rfl (fun q => ?_) rfl
    have hp : (s.setPortCfg p c).port q = s.port q := by simp [State.port]
    simp only [refreshWindow, port_modPort, hp]
    split <;> rfl
  | refresh p f hl hc h =>
    refine agreed_congr hs (by simp [refreshWindow]) (by simp [refreshWindow]) (fun q => ?_) (by simp [refreshWindow])
    simp only [refreshWindow, port_modPort]
    split
    · next hq => subst hq; simp [hc]
    · rfl
  | flights p f hl hw hc h =>
    refine agreed_congr hs (by simp) (by simp) (fun q => ?_) (by simp)
    rw [port_modPort]
    split
    · exact hc _
    · rfl
  | modJob | addJob | freeRecord | dropImages | append | complete | silence | active | restartSecond =>
    exact agreed_congr hs rfl rfl (fun _ => rfl) rfl

theorem Jump.agreed (h : Jump s t) (hs : Agreed s) : Agreed t := by
  have quiet (u : State) (h1 : u.au = {}) (h2 : ∀ q, (u.port q).conds = {}) (h3 : u.smm.low = false) : Agreed u := by
    have ha (x : EntryNo) : u.alert x = {} := by simp [State.alert, h1]
    refine ⟨⟨fun x => by simp [ha, Alert.agrees], by simp [h1], fun x => by simp [ha, h1]⟩, fun q k hk => ?_, by rw [ha, h3]⟩
    rw [ha, h2]
    cases k <;> rfl
  cases h with
  | change h => exact h.agreed hs
  | openAct => exact agreed_congr hs rfl rfl (fun _ => rfl) rfl
  | second => exact agreed_congr hs rfl rfl (fun _ => rfl) rfl
  | cold size stored => exact quiet _ rfl (fun q => by simp [coldStart, State.boot, State.port]) rfl
  | warm => exact quiet _ rfl (fun q => by simp [warmStart, State.port]) rfl
  | linkUp p f hl hf he hi hc =>
    refine agreed_congr hs (by simp) (by simp) (fun q => ?_) (by simp)
    rw [port_setLink]
    split
    · next h => rw [h.1]; simp [hc]
    · rw [port_modPort]
      split
      · exact hc _
      · rfl
  | escalate e =>
    unfold Machine.escalate
    dsimp only
    split
    · exact agreed_congr hs rfl rfl (fun _ => rfl) rfl
    · exact hs

/-! ### The horn -/

/-- The horn follows its rule while entries, escalation time, silence and moment stand. -/
theorem hornFollows_congr (hs : HornFollows s) (h1 : t.au = s.au) (h2 : t.cfg.escalation = s.cfg.escalation)
    (h3 : t.base.now = s.base.now) : HornFollows t := by
  unfold HornFollows at hs ⊢
  rw [h1, h2, h3, hs]
  simp only [State.alert, h1]

/-- The horn that has just been evaluated follows its rule. -/
theorem hornFollows_evalHorn : HornFollows (evalHorn s) := hornNow_iff

theorem hornFollows_evalSpoolLow (hs : HornFollows s) : HornFollows (evalSpoolLow s) := by
  unfold evalSpoolLow
  split
  · exact hs
  · dsimp only
    split
    · obtain ⟨a, hn, _⟩ := notified_alertOn spoolLowEntry { s with smm := { s.smm with low := s.spoolLowNow } }
        (some s.smm.free.length)
      exact hn.horn (hornFollows_congr hs rfl rfl rfl)
    · obtain ⟨a, hn, _⟩ := notified_alertOff spoolLowEntry { s with smm := { s.smm with low := s.spoolLowNow } }
      exact hn.horn (hornFollows_congr hs rfl rfl rfl)

theorem Change.hornFollows (h : Change s t) (hs : HornFollows s) : HornFollows t := by
  cases h with
  | same h => exact hornFollows_congr hs h.au h.escalation (by rw [h.base])
  | condOn p k d hk =>
    unfold Machine.condOn
    split
    · exact hs
    · obtain ⟨a, hn, _⟩ := notified_alertOn (entryNo p k) (s.modPort p (fun x => { x with conds := x.conds.set k true })) d
      exact hn.horn (hornFollows_congr hs (by simp) (by simp) (by simp))
  | condOff p k hk =>
    unfold Machine.condOff
    split
    · obtain ⟨a, hn, _⟩ := notified_alertOff (entryNo p k) (s.modPort p (fun x => { x with conds := x.conds.set k false }))
      exact hn.horn (hornFollows_congr hs (by simp) (by simp) (by simp))
    · exact hs
  | spoolLow => exact hornFollows_evalSpoolLow hs
  | alertRepeat e d => exact (notified_alertRepeat e s d).elim fun a h => h.1.horn hs
  | alertAck e b =>
    obtain h | ⟨a, hn, _⟩ := notified_alertAck e s b
    · rwa [h]
    · exact hn.horn hs
  | partWide | silence => exact hornFollows_evalHorn
  | setLink | refresh | flights => exact hornFollows_congr hs (by simp [refreshWindow]) (by simp [refreshWindow]) (by simp [refreshWindow])
  | portSet => exact hornFollows_congr hs rfl rfl rfl
  | modJob | addJob | freeRecord | dropImages | append | complete | active | restartSecond =>
    exact hornFollows_congr hs rfl rfl rfl

/-- The time that passes before a command takes no entry to the escalation time (log 10). -/
theorem hornFollows_openAct (hs : HornFollows s) : HornFollows (openAct s) := by
  obtain ⟨hle, _, hlt⟩ := nextMoment_bounds (s := s)
  unfold HornFollows at hs ⊢
  refine hs.trans (and_congr_right fun hc => and_congr_right fun _ => exists_congr fun e => and_congr_right fun hr => ?_)
  exact ⟨fun h => h.trans hle, fun h => Nat.not_lt.mp fun hn => Nat.not_lt.mpr h (hlt e hr hc hn)⟩

theorem Jump.hornFollows (h : Jump s t) (hs : HornFollows s) : HornFollows t := by
  have quiet (u : State) (h1 : u.au = {}) : HornFollows u := by
    have ha (x : EntryNo) : u.alert x = {} := by simp [State.alert, h1]
    simp [HornFollows, ha, h1]
  cases h with
  | change h => exact h.hornFollows hs
  | openAct => exact hornFollows_openAct hs
  | second => exact hornFollows_evalHorn
  | cold | warm => exact quiet _ rfl
  | linkUp p f => exact hornFollows_congr hs (by simp) (by simp) (by simp)
  | escalate e =>
    unfold Machine.escalate
    dsimp only
    split
    · exact hornFollows_evalHorn
    · exact hs

/-- Settles O58: every step is a chain of jumps, and each of them keeps the agreement and the rule of the horn. -/
theorem alertsKept : Obligations.AlertsKept :=
  ⟨fun _ _ ht hs h => step_keeps (fun _ _ => Jump.agreed) h ⟨ht, hs⟩,
    fun _ _ hs h => step_keeps (fun _ _ => Jump.hornFollows) h hs⟩

end Sys2Proof.Machine
end

section
/-! PROOF. The lowest record that is free, the next number that no record holds, and what keeps records and numbers
distinct and in range (R18, R31, R32, R35). -/

namespace Sys2Proof.Machine

variable {s t : State}

/-! ### The lowest unused record -/

/-- The search finds the first unused number of its range. -/
theorem lowestUnused_eq_some {used : Nat → Bool} {fuel k r : Nat} : lowestUnused used fuel k = some r
    ↔ k ≤ r ∧ r < k + fuel ∧ used r = false ∧ ∀ i, k ≤ i → i < r → used i = true := by
  induction fuel generalizing k with
  | zero =>
    constructor
    · intro h; cases h
    · rintro ⟨h1, h2, _⟩; omega
  | succ fuel ih =>
    unfold lowestUnused
    split
    · next hu =>
      rw [ih]
      constructor
      · rintro ⟨h1, h2, h3, h4⟩
        refine ⟨by omega, by omega, h3, fun i hi hr => ?_⟩
        obtain rfl | hk := Nat.eq_or_lt_of_le hi
        · exact hu
        · exact h4 i hk hr
      · rintro ⟨h1, h2, h3, h4⟩
        have hk : k ≠ r := by rintro rfl; simp [hu] at h3
        exact ⟨by omega, by omega, h3, fun i hi hr => h4 i (by omega) hr⟩
    · next hu =>
      have hu : used k = false := by simpa using hu
      constructor
      · rintro h
        cases h
        exact ⟨Nat.le_refl _, by omega, hu, fun i _ _ => by omega⟩
      · rintro ⟨h1, _, _, h4⟩
        obtain rfl | hk := Nat.eq_or_lt_of_le h1
        · rfl
        · exact absurd (h4 k (Nat.le_refl _) hk) (by simp [hu])

theorem lowestUnused_eq_none {used : Nat → Bool} {fuel k : Nat} : lowestUnused used fuel k = none
    ↔ ∀ i, k ≤ i → i < k + fuel → used i = true := by
  induction fuel generalizing k with
  | zero => exact ⟨fun _ i h1 h2 => by omega, fun _ => rfl⟩
  | succ fuel ih =>
    unfold lowestUnused
    split
    · next hu =>
      rw [ih]
      constructor
      · intro h i h1 h2
        obtain rfl | hk := Nat.eq_or_lt_of_le h1
        · exact hu
        · exact h i hk (by omega)
      · exact fun h i h1 h2 => h i (by omega) (by omega)
    · next hu =>
      exact ⟨fun h => (Option.some_ne_none _ h).elim, fun h => absurd (h k (Nat.le_refl _) (by omega)) hu⟩

/-! ### Number issue -/

theorem nextNumber_eq {n : Nat} (h : n ≤ 65535) : nextNumber n = n % 65535 + 1 := by
  unfold nextNumber
  split <;> omega

/-- The number issued is the first after `last` that is not held, unless all the tries fall on numbers held. -/
theorem issueNumber_spec {held : Nat → Bool} {fuel last : Nat} (hl : last ≤ 65535) :
    ∃ k ≤ fuel, issueNumber held fuel last = (last + k) % 65535 + 1
      ∧ (k < fuel → held (issueNumber held fuel last) = false) ∧ ∀ i < k, held ((last + i) % 65535 + 1) = true := by
  induction fuel generalizing last with
  | zero => exact ⟨0, Nat.le_refl _, nextNumber_eq hl, fun h => absurd h (by omega), fun i h => absurd h (by omega)⟩
  | succ fuel ih =>
    unfold issueNumber
    split
    · next hh =>
      rw [nextNumber_eq hl] at hh ⊢
      obtain ⟨k, hk, he, hf, hi⟩ := ih (last := last % 65535 + 1) (by omega)
      have hshift (i : Nat) : (last % 65535 + 1 + i) % 65535 = (last + (i + 1)) % 65535 := by omega
      refine ⟨k + 1, by omega, by rw [he, hshift], fun h => hf (by omega), fun i h => ?_⟩
      cases i with
      | zero => exact hh
      | succ i => rw [← hshift]; exact hi i (by omega)
    · next hh => exact ⟨0, by omega, nextNumber_eq hl, fun _ => by simpa using hh, fun i h => absurd h (by omega)⟩

theorem length_le_of_nodup_subset {α : Type} {l m : List α} (hn : l.Nodup) (hs : ∀ x ∈ l, x ∈ m) : l.length ≤ m.length :=
  (hn.subperm hs).length_le

/-- Settles O17: 256 tries fall on distinct numbers, of which at most 255 are held. -/
theorem jobNumberIsNext : Obligations.JobNumberIsNext := by
  intro s hlen hlast
  obtain ⟨k, hk, he, hf, hi⟩ := issueNumber_spec (held := fun n => s.jt.jobs.any (fun j => j.num == n)) (fuel := 256) hlast
  have hheld (i : Nat) (h : i < k) : ∃ j ∈ s.jt.jobs, j.num = (s.jt.lastNum + i) % 65535 + 1 := by
    simpa using hi i h
  have hk' : k ≤ 255 := by
    have hn : ((List.range k).map fun i => (s.jt.lastNum + i) % 65535 + 1).Nodup := by
      refine List.Nodup.map_on (fun a ha b hb h => ?_) List.nodup_range
      have := List.mem_range.mp ha
      have := List.mem_range.mp hb
      omega
    have hle := length_le_of_nodup_subset (m := s.jt.jobs.map fun j => j.num) hn (by
      intro x hx
      obtain ⟨i, hi, rfl⟩ := List.mem_map.mp hx
      obtain ⟨j, hj, hjn⟩ := hheld i (List.mem_range.mp hi)
      exact List.mem_map.mpr ⟨j, hj, hjn⟩)
    simp only [List.length_map, List.length_range] at hle
    omega
  refine ⟨k, hk', he, fun j hj hjn => ?_, hheld⟩
  have hfree := hf (by omega)
  simp only [List.any_eq_false, beq_iff_eq] at hfree
  exact hfree j hj hjn

/-! ### Records and numbers stay distinct and in range -/

theorem map_updateJob {α : Type} {g : Job → α} {n : Nat} {f : Job → Job} (h : ∀ j, g (f j) = g j) (l : List Job) :
    (updateJob n f l).map g = l.map g := by
  induction l with
  | nil => rfl
  | cons x l ih => by_cases hx : x.num = n <;> simp [updateJob, hx, h, ih]

theorem insertJob_perm (j : Job) (l : List Job) : (insertJob j l).Perm (j :: l) := by
  induction l with
  | nil => exact .refl _
  | cons x l ih =>
    unfold insertJob
    split
    · exact .refl _
    · exact (ih.cons x).trans (.swap j x l)

/-- What `JobNumbers` says of each record, through its record number and its job number alone. -/
theorem jobNumbers_congr (hs : JobNumbers s)
    (h : t.jt.jobs.map (fun j => (j.num, j.record)) = s.jt.jobs.map fun j => (j.num, j.record))
    (hl : t.jt.lastNum = s.jt.lastNum) : JobNumbers t := by
  obtain ⟨hn, hr, hb, hlast⟩ := hs
  have hmap {α : Type} (g : Nat × Nat → α) : t.jt.jobs.map (fun j => g (j.num, j.record))
      = s.jt.jobs.map fun j => g (j.num, j.record) := by
    simpa [List.map_map, Function.comp_def] using congrArg (List.map g) h
  refine ⟨by rw [hmap Prod.fst]; exact hn, by rw [hmap Prod.snd]; exact hr, fun j hj => ?_, by rwa [hl]⟩
  have hm : (j.num, j.record) ∈ s.jt.jobs.map fun j => (j.num, j.record) := by
    rw [← h]; exact List.mem_map.mpr ⟨j, hj, rfl⟩
  obtain ⟨k, hk, he⟩ := List.mem_map.mp hm
  obtain ⟨h1, h2⟩ := Prod.mk.inj he
  rw [← h1, ← h2]
  exact hb k hk

/-- A free record leaves at most 255 in use. -/
theorem jobs_length_le {r : Nat} (hs : JobNumbers s) (hr : s.jt.freeRecord = some r) :
    s.jt.jobs.length ≤ 255 ∧ r < 256 ∧ ∀ j ∈ s.jt.jobs, j.record ≠ r := by
  obtain ⟨_, hr256, hfree, _⟩ := lowestUnused_eq_some.mp hr
  have hne : ∀ j ∈ s.jt.jobs, j.record ≠ r := by simpa using hfree
  obtain ⟨_, hrec, hb, _⟩ := hs
  have hn : (r :: s.jt.jobs.map fun j => j.record).Nodup := by
    refine List.nodup_cons.mpr ⟨fun hm => ?_, hrec⟩
    obtain ⟨j, hj, he⟩ := List.mem_map.mp hm
    exact hne j hj he
  have hle : (r :: s.jt.jobs.map fun j => j.record).length ≤ (List.range 256).length := by
    refine length_le_of_nodup_subset hn fun x hx => ?_
    obtain rfl | hx := List.mem_cons.mp hx
    · exact List.mem_range.mpr (by omega)
    · obtain ⟨j, hj, rfl⟩ := List.mem_map.mp hx
      exact List.mem_range.mpr (hb j hj).2.2
  simp only [List.length_cons, List.length_map, List.length_range] at hle
  exact ⟨by omega, by omega, hne⟩

theorem jobNumbers_addJob {j : Job} (hs : JobNumbers s) (hr : s.jt.freeRecord = some j.record)
    (hn : j.num = s.nextJobNumber) : JobNumbers (addJob j s) := by
  obtain ⟨hlen, h256, hrec⟩ := jobs_length_le hs hr
  obtain ⟨hnums, hrecs, hb, hlast⟩ := hs
  obtain ⟨k, _, he, hfree, _⟩ := jobNumberIsNext s hlen hlast
  have hp := insertJob_perm j s.jt.jobs
  have hnum : 1 ≤ j.num ∧ j.num ≤ 65535 := by rw [hn, he]; omega
  refine ⟨(hp.map _).nodup_iff.mpr (List.nodup_cons.mpr ⟨fun hm => ?_, hnums⟩),
    (hp.map _).nodup_iff.mpr (List.nodup_cons.mpr ⟨fun hm => ?_, hrecs⟩), fun x hx => ?_, hnum.2⟩
  · obtain ⟨x, hx, hxn⟩ := List.mem_map.mp hm
    exact hfree x hx (hxn.trans hn)
  · obtain ⟨x, hx, hxr⟩ := List.mem_map.mp hm
    exact hrec x hx hxr
  · obtain rfl | hx := List.mem_cons.mp (hp.mem_iff.mp hx)
    · exact ⟨hnum.1, hnum.2, h256⟩
    · exact hb x hx

theorem Change.jobNumbers (h : Change s t) (hs : JobNumbers s) : JobNumbers t := by
  cases h with
  | same h => exact jobNumbers_congr hs (by rw [h.jobs]) h.lastNum
  | modJob n f hf => exact jobNumbers_congr hs (map_updateJob (fun j => by rw [(hf j).1, (hf j).2]) _) rfl
  | addJob j hr hn => exact jobNumbers_addJob hs hr hn
  | freeRecord n =>
    obtain ⟨hn, hr, hb, hl⟩ := hs
    have hsub := List.filter_sublist (p := fun j : Job => j.num != n) (l := s.jt.jobs)
    exact ⟨hn.sublist (hsub.map _), hr.sublist (hsub.map _), fun j hj => hb j (hsub.subset hj), hl⟩
  | portSet => exact hs
  | spoolLow | condOn | condOff | alertRepeat | alertAck | setLink | refresh | flights | partWide =>
    exact jobNumbers_congr hs (by simp [refreshWindow, setPartWide]) (by simp [refreshWindow, setPartWide])
  | dropImages | append | complete | silence | active | restartSecond => exact hs

theorem Jump.jobNumbers (h : Jump s t) (hs : JobNumbers s) : JobNumbers t := by
  have empty (u : State) (h : u.jt = {}) : JobNumbers u := by simp [JobNumbers, h]
  cases h with
  | change h => exact h.jobNumbers hs
  | openAct | second => exact hs
  | cold | warm => exact empty _ rfl
  | linkUp p f => exact jobNumbers_congr hs (by simp) (by simp)
  | escalate e =>
    unfold Machine.escalate
    dsimp only
    split <;> exact hs

/-! ### The moment of the time base -/

theorem timeWithinSecond_congr (hs : TimeWithinSecond s) (h1 : t.au = s.au) (h2 : t.base = s.base) :
    TimeWithinSecond t := by
  obtain ⟨hl, hu, hr⟩ := hs
  exact ⟨by rwa [h2], by rwa [h2], fun e => by rw [alert_congr h1, h2]; exact hr e⟩

theorem Notified.timeWithinSecond {e : EntryNo} {a : Alert} (h : Notified s t e a) (hs : TimeWithinSecond s) :
    TimeWithinSecond t := by
  obtain ⟨hl, hu, hr⟩ := hs
  refine ⟨by rwa [h.base], by rwa [h.base], fun x => ?_⟩
  rw [h.entry, h.base]
  split
  · obtain ha | ha | ha := h.raisedAt
    · rw [ha]; exact hr e
    · rw [ha]
    · rw [ha]; exact Nat.zero_le _
  · exact hr x

theorem timeWithinSecond_evalSpoolLow (hs : TimeWithinSecond s) : TimeWithinSecond (evalSpoolLow s) := by
  unfold evalSpoolLow
  split
  · exact hs
  · dsimp only
    split
    · obtain ⟨a, hn, _⟩ := notified_alertOn spoolLowEntry { s with smm := { s.smm with low := s.spoolLowNow } }
        (some s.smm.free.length)
      exact hn.timeWithinSecond (timeWithinSecond_congr hs rfl rfl)
    · obtain ⟨a, hn, _⟩ := notified_alertOff spoolLowEntry { s with smm := { s.smm with low := s.spoolLowNow } }
      exact hn.timeWithinSecond (timeWithinSecond_congr hs rfl rfl)

theorem Change.timeWithinSecond (h : Change s t) (hs : TimeWithinSecond s) : TimeWithinSecond t := by
  cases h with
  | same h => exact timeWithinSecond_congr hs h.au h.base
  | condOn p k d hk =>
    unfold Machine.condOn
    split
    · exact hs
    · obtain ⟨a, hn, _⟩ := notified_alertOn (entryNo p k) (s.modPort p (fun x => { x with conds := x.conds.set k true })) d
      exact hn.timeWithinSecond (timeWithinSecond_congr hs (by simp) (by simp))
  | condOff p k hk =>
    unfold Machine.condOff
    split
    · obtain ⟨a, hn, _⟩ := notified_alertOff (entryNo p k) (s.modPort p (fun x => { x with conds := x.conds.set k false }))
      exact hn.timeWithinSecond (timeWithinSecond_congr hs (by simp) (by simp))
    · exact hs
  | spoolLow => exact timeWithinSecond_evalSpoolLow hs
  | alertRepeat e d => exact (notified_alertRepeat e s d).elim fun a h => h.1.timeWithinSecond hs
  | alertAck e b =>
    obtain h | ⟨a, hn, _⟩ := notified_alertAck e s b
    · rwa [h]
    · exact hn.timeWithinSecond hs
  | partWide r l e =>
    have h : TimeWithinSecond (evalSpoolLow (setPartWide r l e s)) := timeWithinSecond_evalSpoolLow hs
    exact h
  | restartSecond m hm => exact ⟨Nat.le_refl _, Nat.le_add_right .., hs.2.2⟩
  | setLink | refresh | flights => exact timeWithinSecond_congr hs (by simp [refreshWindow]) (by simp [refreshWindow])
  | modJob | addJob | freeRecord | dropImages | append | complete | silence | active | portSet => exact hs

theorem Jump.timeWithinSecond (h : Jump s t) (hs : TimeWithinSecond s) : TimeWithinSecond t := by
  obtain ⟨hl, hu, hr⟩ := hs
  cases h with
  | change h => exact h.timeWithinSecond ⟨hl, hu, hr⟩
  | openAct =>
    obtain ⟨hle, hlt, _⟩ := nextMoment_bounds (s := s)
    exact ⟨hl.trans hle, hlt hu, fun e => (hr e).trans hle⟩
  | second => exact ⟨Nat.le_refl _, Nat.le_add_right .., fun e => (hr e).trans hu⟩
  | cold size stored =>
    have ha (e : EntryNo) : (coldStart size stored s).alert e = {} := by simp [coldStart, State.boot, State.alert]
    exact ⟨Nat.le_refl _, Nat.zero_le _, fun e => by rw [ha]; exact Nat.zero_le _⟩
  | warm =>
    have ha (e : EntryNo) : (warmStart s).alert e = {} := by simp [warmStart, State.boot, State.alert]
    exact ⟨hl, hu, fun e => by rw [ha]; exact Nat.zero_le _⟩
  | linkUp p f => exact timeWithinSecond_congr ⟨hl, hu, hr⟩ (by simp) (by simp)
  | escalate e =>
    unfold Machine.escalate
    dsimp only
    split
    · next h =>
      exact ⟨hl.trans (Nat.le_max_left ..), Nat.max_le.mpr ⟨hu, h.2.2⟩, fun x => (hr x).trans (Nat.le_max_left ..)⟩
    · exact ⟨hl, hu, hr⟩

/-! ### The shop clock -/

/-- The shop clock holds at most its largest value (R11, R12). -/
theorem Jump.clock_le (h : Jump s t) (hs : s.mlc.clock ≤ max32) : t.mlc.clock ≤ max32 := by
  cases h with
  | change h =>
    cases h with
    | same h => rwa [h.clock]
    | restartSecond m hm => exact hm
    | portSet => exact hs
    | spoolLow | condOn | condOff | alertRepeat | alertAck | setLink | refresh | flights | partWide =>
      simpa [refreshWindow, setPartWide] using hs
    | modJob | addJob | freeRecord | dropImages | append | complete | silence | active => exact hs
  | openAct => exact hs
  | second =>
    change s.nextClock ≤ max32
    unfold State.nextClock
    split
    · exact Nat.zero_le _
    · omega
  | cold => exact Nat.zero_le _
  | warm => exact hs
  | linkUp p f => simpa using hs
  | escalate e =>
    unfold Machine.escalate
    dsimp only
    split <;> exact hs

end Sys2Proof.Machine
end

section
/-! PROOF. The areas of the message link stay within their sizes (R2, R4, R8, R11). -/

namespace Sys2Proof.Machine

variable {s t : State} {p : PortNo}

/-- The holding area, the notice queue and the discarded-message count are within their sizes (R2, R4, R8). -/
structure AreasFit (m : Mlc) : Prop where
  holding : m.holding.length ≤ 4
  notices : m.notices.length ≤ 32
  discarded : m.discarded ≤ 65535

theorem linkBounds_iff : LinkBounds s ↔ AreasFit s.mlc ∧ s.mlc.clock ≤ max32 ∧ s.notes = [] :=
  ⟨fun ⟨h1, h2, h3, h4, h5⟩ => ⟨⟨h1, h2, h3⟩, h4, h5⟩, fun ⟨⟨h1, h2, h3⟩, h4, h5⟩ => ⟨h1, h2, h3, h4, h5⟩⟩

/-- A block that does not touch the message link keeps its areas. -/
theorem areasFit_of_mlc (h : t.mlc = s.mlc) (hs : AreasFit s.mlc) : AreasFit t.mlc := by rwa [h]

theorem areasFit_countDiscard (hs : AreasFit s.mlc) : AreasFit (countDiscard s).mlc :=
  ⟨hs.holding, hs.notices, Nat.min_le_left ..⟩

/-- An entry joins a holding area that has room. -/
theorem areasFit_join {e : Entry} (hs : AreasFit s.mlc) (hr : s.mlc.holding.length < 4)
    (h1 : t.mlc.holding = s.mlc.holding ++ [e]) (h2 : t.mlc.notices = s.mlc.notices)
    (h3 : t.mlc.discarded = s.mlc.discarded) : AreasFit t.mlc :=
  ⟨by rw [h1, List.length_append, List.length_singleton]; omega, by rw [h2]; exact hs.notices,
    by rw [h3]; exact hs.discarded⟩

theorem areasFit_present (f : Frame) (hs : AreasFit s.mlc) :
    AreasFit (present f (takeByKind f.kind.toNat f.payload) s).1.mlc := by
  unfold present
  split
  · exact areasFit_countDiscard hs
  · next hr =>
    have hr : s.mlc.holding.length < 4 := Nat.not_le.mp hr
    split
    · exact areasFit_join (t := admitOnly f s) hs hr rfl rfl rfl
    · unfold takeRequest
      dsimp only
      split
      · exact areasFit_join (t := answer f _ [] (consumeMask s)) hs hr rfl rfl rfl
      · have ha := takeByKind_areas f.kind.toNat f.payload s.dt.routeMask (consumeMask s)
        split
        · exact areasFit_join (t := answer f _ [] (consumeMask s)) hs hr rfl rfl rfl
        · next r h =>
          rw [h, leaves_ok] at ha
          exact areasFit_join (t := answer f .ok r.contents r.st) hs hr
            (congrArg (· ++ _) ha.holding) ha.notices ha.discarded

/-- A reset leaves the areas empty. -/
theorem areasFit_endReset (hh : s.mlc.holding = []) (hn : s.mlc.notices = []) (hd : s.mlc.discarded = 0) :
    AreasFit (endReset s).1.mlc :=
  areasFit_of_mlc (s := s) (by simp [endReset]) ⟨by simp [hh], by simp [hn], by simp [hd]⟩

theorem areasFit_restartNow (k : RestartKind) : AreasFit (restartNow k s).1.mlc := by
  cases k with
  | cold => exact areasFit_endReset rfl rfl rfl
  | warm => exact areasFit_endReset rfl rfl rfl

theorem areasFit_endFrame (hs : AreasFit s.mlc) : AreasFit (endFrame s).1.mlc := by
  unfold endFrame
  split
  · exact areasFit_restartNow _
  · change AreasFit s.mlc.sent
    unfold Mlc.sent
    split
    · exact hs
    · refine ⟨?_, hs.notices, hs.discarded⟩
      dsimp only
      split
      · exact (List.drop_sublist 1 _).length_le.trans hs.holding
      · exact hs.holding

theorem mlc_examineSchedule : (examineSchedule s).1.mlc = s.mlc := by
  unfold examineSchedule
  split
  · rfl
  · split
    · unfold scheduleDue cutover
      dsimp only
      split
      · split <;> rfl
      · rfl
    · rfl

theorem areasFit_tick (hs : AreasFit s.mlc) : AreasFit (examineSchedule (countSecond s)).1.mlc := by
  rw [mlc_examineSchedule]
  exact ⟨hs.holding, hs.notices, hs.discarded⟩

theorem mlc_saveEnds {agrees : Bool} : (saveEnds agrees s).mlc = s.mlc
    ∨ (saveEnds agrees s).mlc = { s.mlc with defaultsLoaded := false } := by
  unfold saveEnds
  split
  · exact .inl rfl
  · split
    · exact .inr rfl
    · exact .inl rfl

theorem mlc_pressFrame (f : Frame) : (pressFrame p f s).1.mlc = s.mlc := by
  have h := pressFrame_report p f
  generalize pressFrame p f = e at h ⊢
  cases h with
  | hello tag c d m z w =>
    unfold helloFrame onHello
    split
    · split
      case h_3 => split <;> simp [renewCaps]
      all_goals simp
    · rfl
  | taken tag =>
    unfold onTaken
    split
    · rfl
    · split <;> simp [startWatchdog]
  | out tag =>
    unfold onOut
    split
    · rfl
    · split
      · split
        · unfold deliver portDelivers startWatchdog
          dsimp only
          split <;> split <;> simp
        · simp
      · simp
  | jam tag l n =>
    unfold jamFrame onJam jamFirst
    split
    · rfl
    · split
      · rfl
      · split <;> simp
  | clear tag =>
    unfold onClear
    split <;> simp
  | state tag r d m =>
    unfold stateFrame onState
    split
    · split <;> simp
    · rfl
  | none h => rfl

theorem mlc_miss {a : Fin 8} : (miss a s).mlc = s.mlc := by
  unfold miss endExchange
  dsimp only
  split
  · rfl
  · split <;> simp [makeAbsent, notePresence]

theorem mlc_goodReply {a : Fin 8} : (goodReply a s).mlc = s.mlc := by
  unfold goodReply endExchange
  dsimp only
  split <;> simp [notePresence]

theorem panelAction_link (a : Fin 8) (code argument : Nat) : KeepsLink s (panelAction a code argument s) := by
  unfold panelAction ownerAction
  split
  · trivial
  · split
    · trivial
    · split
      case h_5 => exact doHold_link ..
      case h_6 => exact doRelease_link ..
      case h_7 => exact doSuspend_link ..
      case h_8 => exact doResume_link ..
      case h_9 => exact doCancel_link ..
      case h_2 => exact doSilence_link
      all_goals simp [doAckOne, panelPauses, panelUnpauses]

theorem mlc_onAnswer (tag code number : Byte) (argument : Half) : (onAnswer tag code number argument s).1.mlc = s.mlc := by
  unfold onAnswer
  split
  · rfl
  · next ex _ =>
    split
    · unfold decideAnswer
      split
      · exact mlc_goodReply
      · split
        · exact mlc_goodReply
        · have hl := panelAction_link (s := goodReply ex.panel s) ex.panel code.toNat argument.toNat
          split
          · exact mlc_goodReply
          · next r hr =>
            rw [hr] at hl
            exact Eq.trans hl mlc_goodReply
    · exact mlc_miss

theorem mlc_onReplyFrame (checkHolds : Bool) (kind tag : Byte) (payload : List Byte) :
    (onReplyFrame checkHolds kind tag payload s).1.mlc = s.mlc := by
  unfold onReplyFrame
  split
  · rfl
  · split
    · split
      · exact mlc_onAnswer ..
      · exact mlc_miss
    · exact mlc_miss

theorem Event.areasFit {e : State → State × List Task} (h : Event e) (hs : AreasFit s.mlc) : AreasFit (e s).1.mlc := by
  cases h with
  | request f => exact areasFit_present f hs
  | tooLong => exact areasFit_countDiscard hs
  | reset strap touched => exact areasFit_endReset rfl rfl rfl
  | tick => exact areasFit_tick hs
  | tickDue =>
    dsimp only
    split
    · exact areasFit_tick hs
    · exact hs
  | frameSent => exact areasFit_endFrame hs
  | restartBegin =>
    dsimp only
    split
    · exact areasFit_restartNow _
    · exact hs
  | saveEnd agrees =>
    obtain h | h := mlc_saveEnds (s := s) (agrees := agrees)
    · exact areasFit_of_mlc h hs
    · exact ⟨by rw [h]; exact hs.holding, by rw [h]; exact hs.notices, by rw [h]; exact hs.discarded⟩
  | pressFrame p f => exact areasFit_of_mlc (mlc_pressFrame f) hs
  | transferEnd p =>
    refine areasFit_of_mlc ?_ hs
    simp only [transferEnds, startWatchdog]
    split <;> simp
  | hailTimer p =>
    refine areasFit_of_mlc ?_ hs
    simp only [hailAgain]
    split <;> simp
  | wakeTimer p =>
    refine areasFit_of_mlc ?_ hs
    simp only [wakeFails]
    split <;> simp
  | idleTimer p =>
    refine areasFit_of_mlc ?_ hs
    simp only [sleepNow]
    split <;> simp
  | watchdog p =>
    refine areasFit_of_mlc ?_ hs
    simp only [watchdogExpires]
    split <;> simp
  | attemptTimer p =>
    refine areasFit_of_mlc ?_ hs
    simp only [attemptExpires]
    split
    · split <;> simp [linkLost]
    · rfl
  | rateWindow p =>
    refine areasFit_of_mlc ?_ hs
    simp only [rateWindowEnds]
    split
    · split <;> simp
    · rfl
  | escalation e =>
    refine areasFit_of_mlc ?_ hs
    simp only [escalate]
    split <;> simp
  | poll =>
    refine areasFit_of_mlc ?_ hs
    simp only [pollNext]
    split
    · simp [pollPanel]
    · rfl
  | pollTimeout =>
    refine areasFit_of_mlc ?_ hs
    simp only [onTimeout]
    split
    · rfl
    · exact mlc_miss
  | answer tag code number argument => exact areasFit_of_mlc (mlc_onAnswer ..) hs
  | replyFrame checkHolds kind tag payload => exact areasFit_of_mlc (mlc_onReplyFrame ..) hs

/-- The end of an act takes frames off the link's areas and puts notices on the queue, whose size it keeps (R7, R8). -/
theorem areasFit_closeAct {r : State × List Task} (hs : AreasFit r.1.mlc) :
    AreasFit (closeAct r).mlc ∧ (closeAct r).notes = [] := by
  obtain ⟨u, ts⟩ := r
  have hc : (cascade ts u).mlc = u.mlc := by simp
  have hn : (flushNotes (cascade ts u)).mlc.notices.length ≤ 32 :=
    flushNotes_ind (P := fun v => v.mlc.notices.length ≤ 32) (fun n v h => pushNotice_bound n h)
      (by simpa [hc] using hs.notices)
  have hh : (closeAct (u, ts)).mlc.holding.length = u.mlc.holding.length := by
    have h := congrArg List.length (closeAct_replies (s := u) ts)
    rwa [List.length_map, List.length_map] at h
  exact ⟨⟨by rw [hh]; exact hs.holding, pump_bound hn, by simpa using hs.discarded⟩, by simp⟩

/-- The areas fit, and no notice of an act is left over. -/
def AreasIdle (s : State) : Prop := AreasFit s.mlc ∧ s.notes = []

theorem areasIdle_hostByte (b : Byte) (hs : AreasIdle s) : AreasIdle (hostByte s b) := by
  have h1 : AreasFit { s.mlc with rx := (rxByte s.mlc.rx b).1 } := ⟨hs.1.holding, hs.1.notices, hs.1.discarded⟩
  unfold hostByte
  dsimp only
  split
  · exact ⟨h1, hs.2⟩
  · exact ⟨areasFit_countDiscard (s := { s with mlc := { s.mlc with rx := (rxByte s.mlc.rx b).1 } }) h1, hs.2⟩
  · next f _ =>
    exact areasFit_closeAct (areasFit_present f (s := { s with mlc := { s.mlc with rx := (rxByte s.mlc.rx b).1 } }) h1)

theorem areasIdle_pressByte (b : Byte) (hs : AreasIdle s) : AreasIdle (pressByte p s b) := by
  have h1 : AreasIdle (s.modPort p (fun x => { x with rx := (rxByte (s.port p).rx b).1 })) :=
    ⟨areasFit_of_mlc (by simp) hs.1, by simpa using hs.2⟩
  unfold pressByte
  dsimp only
  split
  · exact h1
  · exact h1
  · exact areasFit_closeAct (areasFit_of_mlc (mlc_pressFrame _) h1.1)

theorem areasIdle_exec {i : Instr} (h : exec i s = .next t) (hs : AreasIdle s) : AreasIdle t := by
  have ho : AreasIdle (openAct s) := hs
  obtain ⟨e, he, hx⟩ | ⟨bytes, hx⟩ | ⟨p, bytes, hx⟩ := exec_cases i s
  · obtain rfl := Host.Outcome.next.inj (h.symm.trans hx)
    exact areasFit_closeAct (he.areasFit ho.1)
  · obtain rfl := Host.Outcome.next.inj (h.symm.trans hx)
    exact List.foldlRecOn (motive := AreasIdle) bytes _ ho fun _ h b _ => areasIdle_hostByte b h
  · obtain rfl := Host.Outcome.next.inj (h.symm.trans hx)
    exact List.foldlRecOn (motive := AreasIdle) bytes _ ho fun _ h b _ => areasIdle_pressByte b h

theorem areasIdle_step (h : step s = .next t) (hs : AreasIdle s) : AreasIdle t := by
  unfold step at h
  split at h
  · obtain rfl := Host.Outcome.next.inj h
    exact hs
  · exact areasIdle_exec h hs

/-- Settles O55: the areas are bounded through each event, the rest through each jump. -/
theorem boundsKept : Obligations.BoundsKept := by
  refine ⟨fun s t hl hj h => ?_, fun s t hs h => step_keeps (fun _ _ => Jump.timeWithinSecond) h hs⟩
  obtain ⟨ha, hc, hn⟩ := linkBounds_iff.mp hl
  obtain ⟨ha', hn'⟩ := areasIdle_step h ⟨ha, hn⟩
  exact ⟨linkBounds_iff.mpr ⟨ha', step_keeps (fun _ _ => Jump.clock_le) h hc, hn'⟩,
    step_keeps (fun _ _ => Jump.jobNumbers) h hj⟩

end Sys2Proof.Machine
end

section
/-! PROOF. Every spool block is in one place, and spool memory keeps its canonical form (R16 to R19). -/

namespace Sys2Proof.Machine

variable {s t : State} {m : Smm} {n : Nat} {i : Image}

/-! ### The image table as a list -/

/-- A chain covers its image (R16). -/
def Image.covered (x : Image) : Prop := x.length ≤ 32768 * x.chain.length

theorem insertImage_perm (i : Image) (l : List Image) : (insertImage i l).Perm (i :: l) := by
  induction l with
  | nil => exact .refl _
  | cons x l ih =>
    unfold insertImage
    split
    · exact .refl _
    · exact (ih.cons x).trans (.swap i x l)

/-- An image in a table of distinct records stands where its record does: writing its record replaces it alone. -/
theorem updateImage_split {l : List Image} (f : Image → Image) (hn : (l.map fun x => x.record).Nodup) (hi : i ∈ l) :
    ∃ pre post, l = pre ++ i :: post ∧ updateImage i.record f l = pre ++ f i :: post := by
  induction l with
  | nil => cases hi
  | cons x l ih =>
    obtain ⟨hx, hl⟩ := List.nodup_cons.mp hn
    unfold updateImage
    by_cases hr : x.record = i.record
    · have hxi : x = i := by
        obtain rfl | hi := List.mem_cons.mp hi
        · rfl
        · exact absurd (List.mem_map.mpr ⟨i, hi, hr.symm⟩) hx
      subst hxi
      exact ⟨[], l, rfl, if_pos rfl⟩
    · have hi : i ∈ l := (List.mem_cons.mp hi).resolve_left fun h => hr (by rw [h])
      obtain ⟨pre, post, h1, h2⟩ := ih hl hi
      exact ⟨x :: pre, post, by rw [h1]; rfl, by rw [if_neg hr, h2]; rfl⟩

/-- One place for every block, and the image table in order: `SpoolPartition` of the Spool Memory Manager alone. -/
structure Parted (m : Smm) : Prop where
  blocks : (m.free ++ m.images.flatMap fun i => i.chain).Perm (List.range (blockCount m.sizeClass))
  records : (m.images.map fun i => i.record).Nodup
  covered : ∀ x ∈ m.images, x.covered
  building : ∀ x ∈ m.images, ∀ y ∈ m.images, x.job = y.job → x.complete = false → y.complete = false → x = y
  indices : ∀ n, ((m.images.filter fun i => i.job == n).map fun i => i.index).Perm (List.range (m.imageCount n))

theorem spoolPartition_iff : SpoolPartition s ↔ Parted s.smm :=
  ⟨fun ⟨h1, h2, h3, h4, h5⟩ => ⟨h1, h2, h3, h4, h5⟩, fun ⟨h1, h2, h3, h4, h5⟩ => ⟨h1, h2, h3, h4, h5⟩⟩

/-- An index names one image of a job. -/
theorem Parted.index_inj (h : Parted m) {x y : Image} (hx : x ∈ m.images) (hy : y ∈ m.images) (hj : x.job = y.job)
    (hi : x.index = y.index) : x = y := by
  have hn : ((m.images.filter fun i => i.job == y.job).map fun i => i.index).Nodup :=
    (h.indices y.job).nodup_iff.mpr List.nodup_range
  exact List.inj_on_of_nodup_map hn (List.mem_filter.mpr ⟨hx, by simp [hj]⟩) (List.mem_filter.mpr ⟨hy, by simp⟩) hi

theorem Parted.image?_eq (h : Parted m) {x : Image} (hx : x ∈ m.images) : m.image? x.job x.index = some x := by
  unfold Smm.image?
  cases hf : m.images.find? fun y => y.job == x.job && y.index == x.index with
  | none => exact absurd (List.find?_eq_none.mp hf x hx) (by simp)
  | some y =>
    obtain ⟨hj, hi⟩ : y.job = x.job ∧ y.index = x.index := by simpa using List.find?_some hf
    rw [h.index_inj (List.mem_of_find?_eq_some hf) hx hj hi]

/-! ### The images of a job are freed -/

/-- The chains of a job in order of index are the chains of its images (R27). -/
theorem Parted.chainsOf_perm (h : Parted m) (n : Nat) :
    (m.chainsOf n).Perm ((m.images.filter fun x => x.job == n).flatMap fun x => x.chain) := by
  refine ((h.indices n).symm.flatMap_right _).trans (.of_eq ?_)
  rw [List.flatMap_map]
  refine List.flatMap_congr fun x hx => ?_
  obtain ⟨hm, hj⟩ := List.mem_filter.mp hx
  obtain rfl := beq_iff_eq.mp hj
  rw [h.image?_eq hm]

theorem filter_dropped (n k : Nat) (l : List Image) : (l.filter fun x => x.job != n).filter (fun x => x.job == k)
    = if k = n then [] else l.filter fun x => x.job == k := by
  rw [List.filter_filter]
  split
  · next h => subst h; simp
  · next h =>
    refine List.filter_congr fun x _ => ?_
    by_cases hx : x.job = k <;> simp [hx, h]

theorem Parted.drop (h : Parted m) (n : Nat) :
    Parted { m with free := m.free ++ m.chainsOf n, images := m.images.filter fun x => x.job != n } where
  blocks := by
    refine List.Perm.trans ?_ h.blocks
    rw [List.append_assoc]
    refine List.Perm.append_left _ (((h.chainsOf_perm n).append_right _).trans ?_)
    rw [← List.flatMap_append]
    have hp := List.filter_append_perm (fun x : Image => x.job == n) m.images
    exact hp.flatMap_right _
  records := h.records.sublist (List.filter_sublist.map _)
  covered x hx := h.covered x (List.mem_of_mem_filter hx)
  building x hx y hy := h.building x (List.mem_of_mem_filter hx) y (List.mem_of_mem_filter hy)
  indices k := by
    simp only [Smm.imageCount, filter_dropped]
    split
    · exact .refl _
    · exact h.indices k

/-! ### An image is replaced, or joins the table -/

theorem blocks_regroup (free pre chain post : List Nat) :
    (free ++ (pre ++ (chain ++ post))).Perm ((free ++ chain) ++ (pre ++ post)) := by
  rw [List.append_assoc]
  exact (List.perm_append_comm_assoc pre chain post).append_left free

/-- An image is replaced by one of the same record, job and index. -/
theorem Parted.replace (h : Parted m) {f : Image → Image} {free : List Nat} {spool : List Host.Cell} (hi : i ∈ m.images)
    (hr : (f i).record = i.record) (hj : (f i).job = i.job) (hx : (f i).index = i.index) (hc : (f i).covered)
    (hb : (f i).complete = false → i.complete = false) (hp : (free ++ (f i).chain).Perm (m.free ++ i.chain)) :
    Parted { m with free := free, images := updateImage i.record f m.images, spool := spool } := by
  obtain ⟨pre, post, h1, h2⟩ := updateImage_split f h.records hi
  have hother {x : Image} (hx : x ∈ pre ++ f i :: post) : x = f i ∨ x ∈ m.images ∧ x ≠ i := by
    have hn : i.record ∉ (pre ++ post).map fun x => x.record := by
      have hr := h.records
      rw [h1, List.map_append, List.map_cons] at hr
      rw [List.map_append]
      exact (List.nodup_cons.mp (List.nodup_middle.mp hr)).1
    have hne (hx : x ∈ pre ++ post) : x ≠ i := fun he => hn (List.mem_map.mpr ⟨x, hx, by rw [he]⟩)
    rw [h1]
    simp only [List.mem_append, List.mem_cons] at hx ⊢
    obtain hx | rfl | hx := hx
    · exact .inr ⟨.inl hx, hne (List.mem_append_left _ hx)⟩
    · exact .inl rfl
    · exact .inr ⟨.inr (.inr hx), hne (List.mem_append_right _ hx)⟩
  have hk (k : Nat) : ((pre ++ f i :: post).filter fun x => x.job == k).map (fun x => x.index)
      = (m.images.filter fun x => x.job == k).map fun x => x.index := by
    rw [h1]
    simp only [List.filter_append, List.filter_cons, hj, List.map_append]
    split <;> simp [hx]
  constructor
  · have hbl := h.blocks
    rw [h1] at hbl
    rw [h2]
    simp only [List.flatMap_append, List.flatMap_cons] at hbl ⊢
    exact (blocks_regroup ..).trans ((hp.append_right _).trans ((blocks_regroup ..).symm.trans hbl))
  · have hrec := h.records
    rw [h1] at hrec
    rw [h2]
    simpa [hr] using hrec
  · rw [h2]
    intro x hx
    obtain rfl | ⟨hx, _⟩ := hother hx
    · exact hc
    · exact h.covered x hx
  · rw [h2]
    intro x hx y hy hxy hxc hyc
    obtain rfl | ⟨hx, hxi⟩ := hother hx <;> obtain rfl | ⟨hy, hyi⟩ := hother hy
    · rfl
    · exact absurd (h.building y hy i hi (hxy.symm.trans hj) hyc (hb hxc)) hyi
    · exact absurd (h.building x hx i hi (hxy.trans hj) hxc (hb hyc)) hxi
    · exact h.building x hx y hy hxy hxc hyc
  · intro k
    have hl := congrArg List.length (hk k)
    simp only [List.length_map] at hl
    simp only [Smm.imageCount, h2, hk, hl]
    exact h.indices k

/-- An image with a record of its own joins the table as the next of a job with no BUILDING image. -/
theorem Parted.join (h : Parted m) {w : Image} {free : List Nat} {spool : List Host.Cell}
    (hr : ∀ x ∈ m.images, x.record ≠ w.record) (hb : ∀ x ∈ m.images, x.job = w.job → x.complete = true)
    (hx : w.index = m.imageCount w.job) (hc : w.covered) (hp : (free ++ w.chain).Perm m.free) :
    Parted { m with free := free, images := insertImage w m.images, spool := spool } := by
  have hins := insertImage_perm w m.images
  constructor
  · refine ((hins.flatMap_right _).append_left _).trans ?_
    rw [List.flatMap_cons, ← List.append_assoc]
    exact (hp.append_right _).trans h.blocks
  · refine (hins.map _).nodup_iff.mpr (List.nodup_cons.mpr ⟨fun hm => ?_, h.records⟩)
    obtain ⟨x, hx, he⟩ := List.mem_map.mp hm
    exact hr x hx he
  · intro x hx
    obtain rfl | hx := List.mem_cons.mp (hins.mem_iff.mp hx)
    · exact hc
    · exact h.covered x hx
  · intro x hx y hy hxy hxc hyc
    obtain hxw | hx := List.mem_cons.mp (hins.mem_iff.mp hx) <;>
      obtain hyw | hy := List.mem_cons.mp (hins.mem_iff.mp hy)
    · exact hxw.trans hyw.symm
    · exact absurd (hb y hy (hxy.symm.trans (by rw [hxw]))) (by simp [hyc])
    · exact absurd (hb x hx (hxy.trans (by rw [hyw]))) (by simp [hxc])
    · exact h.building x hx y hy hxy hxc hyc
  · intro k
    have hf := (hins.filter fun x => x.job == k).map fun x => x.index
    have hl : ((insertImage w m.images).filter fun x => x.job == k).length = ((w :: m.images).filter fun x => x.job == k).length :=
      (hins.filter _).length_eq
    refine hf.trans ?_
    simp only [Smm.imageCount, hl, List.filter_cons]
    split
    · next hk =>
      obtain rfl := beq_iff_eq.mp hk
      rw [List.map_cons, List.length_cons, List.range_succ, hx]
      exact ((h.indices w.job).cons _).trans (List.perm_append_singleton ..).symm
    · exact h.indices k

/-! ### What the requests do -/

theorem building?_eq_some (hb : m.building? n = some i) : i ∈ m.images ∧ i.job = n ∧ i.complete = false := by
  have h := List.find?_some hb
  simp only [Bool.and_eq_true, beq_iff_eq, Bool.not_eq_true'] at h
  exact ⟨List.mem_of_find?_eq_some hb, h⟩

theorem building?_eq_none (hb : m.building? n = none) : ∀ x ∈ m.images, x.job = n → x.complete = true := by
  intro x hx hj
  have h := List.find?_eq_none.mp hb x hx
  simpa [hj] using h

/-- The image that data goes to is the BUILDING one, or a new one with an unused record and the next index (R21). -/
theorem dataImage_eq_some (hd : m.dataImage n = some i) : m.building? n = some i
    ∨ m.building? n = none ∧ m.imageCount n < maxImages ∧ ∃ r, m.freeRecord = some r
      ∧ i = { record := r, job := n, index := m.imageCount n } := by
  unfold Smm.dataImage at hd
  split at hd
  · next i' hb => rw [hb]; exact .inl hd
  · next hb =>
    split at hd
    · cases hd
    · next hc =>
      obtain ⟨r, hr, rfl⟩ := Option.map_eq_some_iff.mp hd
      exact .inr ⟨hb, Nat.not_le.mp hc, r, hr, rfl⟩

theorem image_freeRecord {r : Nat} (hr : m.freeRecord = some r) : ∀ x ∈ m.images, x.record ≠ r := by
  obtain ⟨_, _, hu, _⟩ := lowestUnused_eq_some.mp hr
  simpa using hu

/-- The image with the block it needs: the head of the free-block list joins its chain (R17, R23). -/
theorem grow_perm (m : Smm) (i : Image) (needs : Bool) :
    (m.free.drop (bit needs) ++ (m.grow i needs).chain).Perm (m.free ++ i.chain) := by
  cases needs with
  | false => exact .refl _
  | true =>
    have h : (m.free.drop 1 ++ (i.chain ++ m.free.take 1)).Perm (m.free.take 1 ++ m.free.drop 1 ++ i.chain) := by
      rw [← List.append_assoc, List.append_assoc (m.free.take 1)]
      exact List.perm_append_comm
    rwa [List.take_append_drop] at h

/-- The chain covers the bytes appended, of which there are at most a block's worth (R22). -/
theorem grow_covered {k : Nat} (hk : k ≤ 1024) (hc : i.covered) (hf : i.needsBlock k = true → m.free ≠ []) :
    i.length + k ≤ 32768 * (m.grow i (i.needsBlock k)).chain.length := by
  unfold Image.covered at hc
  cases hn : i.needsBlock k with
  | false =>
    have hn : ¬ 32768 * i.chain.length < i.length + k := of_decide_eq_false hn
    exact Nat.not_lt.mp hn
  | true =>
    obtain ⟨b, bs, hb⟩ := List.exists_cons_of_ne_nil (hf hn)
    simp only [Smm.grow, if_true, hb, List.take_succ_cons, List.take_zero, List.length_append, List.length_singleton]
    omega

theorem Parted.append (h : Parted m) {data : List Byte} (hi : m.dataImage n = some i) (hd : data.length ≤ 1024)
    (hf : i.needsBlock data.length = true → m.free ≠ []) :
    Parted (m.appendData i (m.building? n).isNone (i.needsBlock data.length) data) := by
  have hgrow : (m.grow i (i.needsBlock data.length)).record = i.record ∧ (m.grow i (i.needsBlock data.length)).job = i.job
      ∧ (m.grow i (i.needsBlock data.length)).index = i.index
      ∧ (m.grow i (i.needsBlock data.length)).complete = i.complete := by
    unfold Smm.grow
    split <;> exact ⟨rfl, rfl, rfl, rfl⟩
  obtain ⟨hr, hj, hx, hb⟩ := hgrow
  obtain hb' | ⟨hb', _, r, hfree, rfl⟩ := dataImage_eq_some hi
  · obtain ⟨hmem, _, _⟩ := building?_eq_some hb'
    rw [hb']
    exact h.replace (f := fun _ => _) hmem hr hj hx (grow_covered hd (h.covered i hmem) hf) (fun hc => hb ▸ hc)
      (grow_perm ..)
  · rw [hb']
    refine h.join (fun x hx => ?_) (fun x hx hxj => ?_) ?_ (grow_covered hd (Nat.zero_le _) hf) ?_
    · exact fun he => image_freeRecord hfree x hx (he.trans hr)
    · exact building?_eq_none hb' x hx (hxj.trans hj)
    · exact hx.trans (by rw [hj])
    · simpa using grow_perm m { record := r, job := n, index := m.imageCount n } _

theorem parted_boot (size : Fin 4) (m : Smm) (h : m = { sizeClass := size, free := List.range (blockCount size) }) :
    Parted m := by
  subst h
  exact ⟨by simp, by simp, by simp, by simp, by simp [Smm.imageCount]⟩

/-- The partition and the canonical form. -/
def SpoolSound (m : Smm) : Prop := Parted m ∧ Memory.wf m.spool = true

theorem Change.spoolSound (h : Change s t) (hs : SpoolSound s.smm) : SpoolSound t.smm := by
  cases h with
  | same h => rwa [h.smm]
  | dropImages n => exact ⟨hs.1.drop n, hs.2⟩
  | append n i data hi hd hf => exact ⟨hs.1.append hi hd hf, storeBytes_wf hs.2⟩
  | complete n i sides offset hi =>
    obtain ⟨hmem, _, _⟩ := building?_eq_some hi
    refine ⟨?_, hs.2⟩
    exact hs.1.replace (free := s.smm.free) (spool := s.smm.spool) hmem rfl rfl rfl (hs.1.covered i hmem)
      (fun hc => Bool.noConfusion hc) (.refl _)
  | spoolLow =>
    obtain ⟨⟨h1, h2, h3, h4, h5⟩, hw⟩ := hs
    refine ⟨⟨by simpa using h1, by simpa using h2, by simpa using h3, by simpa using h4, ?_⟩, by simpa using hw⟩
    simpa [Smm.imageCount] using h5
  | partWide r l e =>
    obtain ⟨⟨h1, h2, h3, h4, h5⟩, hw⟩ := hs
    refine ⟨⟨by simpa [setPartWide] using h1, by simpa [setPartWide] using h2, by simpa [setPartWide] using h3,
      by simpa [setPartWide] using h4, ?_⟩, by simpa [setPartWide] using hw⟩
    simpa [Smm.imageCount, setPartWide] using h5
  | condOn | condOff | alertRepeat | alertAck | setLink | refresh | flights => simpa [refreshWindow] using hs
  | modJob | addJob | freeRecord | silence | active | restartSecond | portSet => exact hs

theorem Jump.spoolSound (h : Jump s t) (hs : SpoolSound s.smm) : SpoolSound t.smm := by
  cases h with
  | change h => exact h.spoolSound hs
  | openAct | second => exact hs
  | cold size stored => exact ⟨parted_boot size _ rfl, rfl⟩
  | warm => exact ⟨parted_boot s.smm.sizeClass _ rfl, rfl⟩
  | linkUp p f => simpa using hs
  | escalate e =>
    unfold Machine.escalate
    dsimp only
    split <;> exact hs

/-- Settles O56: every step is a chain of jumps, and each of them keeps every block in its place. -/
theorem spoolKept : Obligations.SpoolKept := by
  intro s t hp hc h
  obtain ⟨hp', hc'⟩ := step_keeps (P := fun s => SpoolSound s.smm) (fun _ _ => Jump.spoolSound) h
    ⟨spoolPartition_iff.mp hp, hc⟩
  exact ⟨spoolPartition_iff.mpr hp', hc'⟩

end Sys2Proof.Machine
end

section
/-! PROOF. The reset, the receivers of the host link and of the press links, and the frames they find (R1, R2, R86). -/

namespace Sys2Proof.Machine

variable {s : State}

/-! ### The queue and the reset -/

/-- Settles O1. -/
theorem stepRunsFront : Obligations.StepRunsFront := by
  constructor
  · intro c rest s h
    simp only [step, h]
  · intro s h
    simp only [step, h]

/-- Settles O2, item by item. -/
theorem bootState : Obligations.BootState := by
  intro size cfg
  refine ⟨_, rfl, ?_⟩
  simp [State.boot, State.port, State.queue, State.reservation, State.alert, State.panel, blockCount]

/-! ### A run of bytes at a receiver (R2) -/

/-- A receiver's condition carries over from one run of bytes to the next. -/
theorem rxRun_append (r : Rx) (a b : List Byte) :
    rxRun r (a ++ b) = ((rxRun (rxRun r a).1 b).1, (rxRun r a).2 ++ (rxRun (rxRun r a).1 b).2) := by
  induction a generalizing r with
  | nil => rfl
  | cons x a ih =>
    simp only [List.cons_append, rxRun, ih]
    split <;> rfl

/-- Bytes ahead of a sync byte are skipped. -/
theorem rxRun_skipped {bytes : List Byte} (h : syncByte ∉ bytes) : rxRun .hunting bytes = (.hunting, []) := by
  induction bytes with
  | nil => rfl
  | cons b bytes ih =>
    obtain ⟨hb, hrest⟩ := not_or.mp (List.mem_cons.not.mp h)
    have here : rxByte .hunting b = (.hunting, .nothing) := if_neg (Ne.symm hb)
    simp [rxRun, here, ih hrest]

/-- The bytes `w` after a sync byte announce a payload of `l` bytes, and are as many as such a frame has, its check
right or wrong (R1). -/
structure Announces (w : List Byte) (l : Nat) : Prop where
  short : l ≤ maxPayload
  front : be16 l <+: w
  whole : w.length = l + 6

theorem announces_collected (f : Frame) (h : f.payload.length ≤ maxPayload) :
    Announces (collectedBytes f) f.payload.length :=
  ⟨h, by simp [collectedBytes, frameBody], collectedBytes_length f⟩

theorem announces_checked (f : Frame) (check : Nat) (h : f.payload.length ≤ maxPayload) :
    Announces (frameBody f ++ be16 check) f.payload.length :=
  ⟨h, by simp [frameBody], by simp⟩

variable {w got : List Byte} {l : Nat}

/-- Two bytes of it or more hold the length. -/
theorem Announces.halfAt_eq (h : Announces w l) (hp : got <+: w) (h2 : 2 ≤ got.length) : halfAt got 0 = l := by
  obtain ⟨post, rfl⟩ := List.prefix_of_prefix_length_le h.front hp h2
  have hl := h.short
  exact halfAt_be16 (pre := []) (by unfold maxPayload at hl; omega)

/-- Short of its last byte it is collected further. -/
theorem Announces.judge_front (h : Announces w l) (hp : got <+: w) (hlt : got.length < l + 6) :
    rxJudge got = (.inFrame got, .nothing) := by
  have hl := h.short
  unfold rxJudge
  by_cases h2 : got.length < 2
  · rw [if_pos h2]
  · rw [if_neg h2, h.halfAt_eq hp (by omega), if_neg (by omega), if_pos hlt]

/-- All but the last byte are collected, and nothing is found. -/
theorem Announces.run_front (h : Announces w l) (more : List Byte) (hp : got ++ more <+: w)
    (hlt : (got ++ more).length < l + 6) : rxRun (.inFrame got) more = (.inFrame (got ++ more), []) := by
  induction more generalizing got with
  | nil => simp [rxRun]
  | cons b more ih =>
    rw [List.append_cons] at hp hlt ⊢
    have hb : rxByte (.inFrame got) b = (.inFrame (got ++ [b]), .nothing) :=
      h.judge_front ((List.prefix_append _ _).trans hp) (by rw [List.length_append] at hlt; omega)
    simp [rxRun, hb, ih hp hlt]

/-- The whole is judged at its last byte, and nothing is found before. -/
theorem Announces.split (h : Announces w l) : ∃ front last, w = front ++ [last]
    ∧ rxRun .hunting (syncByte :: front) = (.inFrame front, []) ∧ rxByte (.inFrame front) last = rxJudge w := by
  have hw := h.whole
  have hne : w ≠ [] := by rintro rfl; simp at hw
  obtain ⟨front, last, rfl⟩ : ∃ front last, w = front ++ [last] := ⟨_, _, (List.dropLast_append_getLast hne).symm⟩
  refine ⟨front, last, rfl, ?_, rfl⟩
  have hf := h.run_front (got := []) front (List.prefix_append _ _) (by simp at hw ⊢; omega)
  simpa [rxRun, rxByte_sync] using hf

/-- With a check that is not the one computed, the whole is a discard. -/
theorem rxJudge_wrongCheck {f : Frame} {check : Nat} (hl : f.payload.length ≤ maxPayload) (hc : check < 65536)
    (hne : check ≠ (crc16 (frameBody f)).toNat) : rxJudge (frameBody f ++ be16 check) = (.hunting, .discard) := by
  have ha := announces_checked f check hl
  have hat : halfAt (frameBody f ++ be16 check) (f.payload.length + 4) = check := by
    simpa using halfAt_be16 (pre := frameBody f) (post := []) hc
  have htake : (frameBody f ++ be16 check).take (f.payload.length + 4) = frameBody f := by
    rw [← frameBody_length, List.take_left]
  unfold rxJudge
  rw [if_neg (by simp), ha.halfAt_eq (List.prefix_refl _) (by simp), if_neg (by omega), if_neg (by simp), htake, hat,
    if_neg hne.symm]

/-- A whole frame is found, or discarded, at its last byte, the bytes ahead of it skipped. -/
theorem Announces.run (h : Announces w l) {skipped : List Byte} (hs : syncByte ∉ skipped) {r : Rx} {e : RxEvent}
    (hj : rxJudge w = (r, e)) (he : e ≠ .nothing) : rxRun .hunting (skipped ++ syncByte :: w) = (r, [e]) := by
  obtain ⟨front, last, rfl, hfront, hlast⟩ := h.split
  have hrun : rxRun (.inFrame front) [last] = (r, [e]) := by simp [rxRun, hlast, hj, he]
  rw [rxRun_append, rxRun_skipped hs, ← List.cons_append, rxRun_append, hfront, hrun]
  rfl

theorem rxRun_frame {f : Frame} (hl : f.payload.length ≤ maxPayload) {skipped : List Byte} (hs : syncByte ∉ skipped) :
    rxRun .hunting (skipped ++ frameBytes f) = (.hunting, [.frame f]) :=
  (announces_collected f hl).run hs (rxJudge_whole hl) nofun

theorem rxRun_wrongCheck {f : Frame} {check : Nat} (hl : f.payload.length ≤ maxPayload) (hc : check < 65536)
    (hne : check ≠ (crc16 (frameBody f)).toNat) {skipped : List Byte} (hs : syncByte ∉ skipped) :
    rxRun .hunting (skipped ++ syncByte :: (frameBody f ++ be16 check)) = (.hunting, [.discard]) :=
  (announces_checked f check hl).run hs (rxJudge_wrongCheck hl hc hne) nofun

/-- A length above 1,040 is a discard once both its bytes are there. -/
theorem rxRun_tooLong {hi lo : Byte} (h : maxPayload < hi.toNat * 256 + lo.toNat) {skipped : List Byte}
    (hs : syncByte ∉ skipped) : rxRun .hunting (skipped ++ [syncByte, hi, lo]) = (.hunting, [.discard]) := by
  have hhi : rxByte (.inFrame []) hi = (.inFrame [hi], .nothing) := rfl
  have hat : halfAt [hi, lo] 0 = hi.toNat * 256 + lo.toNat := by simp [halfAt, byteAt]
  have hlo : rxByte (.inFrame [hi]) lo = (.hunting, .discard) := by
    show rxJudge [hi, lo] = _
    rw [rxJudge, if_neg (by simp), hat, if_pos h]
  rw [rxRun_append, rxRun_skipped hs]
  simp [rxRun, rxByte_sync, hhi, hlo]

/-! ### The host link -/

theorem hostByte_discard {b : Byte} {r : Rx} (h : rxByte s.mlc.rx b = (r, .discard)) :
    hostByte s b = countDiscard { s with mlc := { s.mlc with rx := r } } := by
  simp [hostByte, h]

/-- Bytes that complete nothing change the receiver alone. -/
theorem foldl_hostByte_nothing {bytes : List Byte} (h : (rxRun s.mlc.rx bytes).2 = []) :
    bytes.foldl hostByte s = { s with mlc := { s.mlc with rx := (rxRun s.mlc.rx bytes).1 } } := by
  induction bytes generalizing s with
  | nil => rfl
  | cons b bytes ih =>
    by_cases hb : (rxByte s.mlc.rx b).2 = .nothing
    · have hrest : (rxRun (rxByte s.mlc.rx b).1 bytes).2 = [] := by simpa [rxRun, hb] using h
      rw [List.foldl_cons, hostByte_nothing (Prod.ext rfl hb), ih hrest]
      rfl
    · simp [rxRun, hb] at h

/-- Bytes that end in one discard raise the count of discards by one, and change nothing else but the receiver (R2). -/
theorem foldl_hostByte_discard {bytes : List Byte} (h : (rxRun s.mlc.rx bytes).2 = [.discard]) :
    bytes.foldl hostByte s = countDiscard { s with mlc := { s.mlc with rx := (rxRun s.mlc.rx bytes).1 } } := by
  induction bytes generalizing s with
  | nil => simp [rxRun] at h
  | cons b bytes ih =>
    by_cases hb : (rxByte s.mlc.rx b).2 = .nothing
    · have hrest : (rxRun (rxByte s.mlc.rx b).1 bytes).2 = [.discard] := by simpa [rxRun, hb] using h
      rw [List.foldl_cons, hostByte_nothing (Prod.ext rfl hb), ih hrest]
      rfl
    · obtain ⟨hd, hrest⟩ : (rxByte s.mlc.rx b).2 = .discard ∧ (rxRun (rxByte s.mlc.rx b).1 bytes).2 = [] := by
        simpa [rxRun, hb] using h
      rw [List.foldl_cons, hostByte_discard (Prod.ext rfl hd), foldl_hostByte_nothing hrest]
      rfl

/-- Settles O4. -/
theorem receiverFindsFrames : Obligations.ReceiverFindsFrames := by
  intro skipped hs
  refine ⟨rxRun_skipped hs, fun f hl => rxRun_frame hl hs, fun f check hl hc hne => rxRun_wrongCheck hl hc hne hs,
    fun hi lo h => rxRun_tooLong h hs, fun bytes s hrx hrun => congrArg Host.Outcome.next ?_⟩
  have hrun' : rxRun (openAct s).mlc.rx bytes = (.hunting, [.discard]) := by rw [openAct_frame.1, hrx, hrun]
  rw [foldl_hostByte_discard (by rw [hrun']), hrun']
  simp [countDiscard, satAdd, max16, ← hrx]

/-! ### The layout of a frame (R1) -/

/-- Settles O3. -/
theorem frameLayout : Obligations.FrameLayout := by
  intro f hl
  have hlen : halfAt (frameBytes f) 1 = f.payload.length :=
    halfAt_be16 (pre := [syncByte]) (by omega)
  have hcheck : halfAt (frameBytes f) (5 + f.payload.length) = (crc16 (frameBody f)).toNat := by
    have h := halfAt_be16 (pre := syncByte :: frameBody f) (post := []) (crc16 (frameBody f)).isLt
    rw [List.append_nil, List.length_cons, frameBody_length] at h
    rw [show 5 + f.payload.length = f.payload.length + 4 + 1 by omega, ← h]
    rfl
  have hbody : ((frameBytes f).drop 1).take (f.payload.length + 4) = frameBody f := take_collectedBytes f
  refine ⟨by simp [frameBytes_eq], rfl, hlen, rfl, rfl, List.take_left, ?_⟩
  rw [hcheck, hbody]

/-! ### A press link -/

variable {p : PortNo}

/-- Bytes among which no frame completes change the receiver of the port alone: a discard is counted nowhere (R86). -/
theorem foldl_pressByte_noFrame {bytes : List Byte} (h : ∀ e ∈ (rxRun (s.port p).rx bytes).2, e = .discard) :
    bytes.foldl (pressByte p) s = s.modPort p (fun x => { x with rx := (rxRun (s.port p).rx bytes).1 }) := by
  induction bytes generalizing s with
  | nil => exact modPort_id.symm
  | cons b bytes ih =>
    have hpress (hb : (rxByte (s.port p).rx b).2 = .nothing ∨ (rxByte (s.port p).rx b).2 = .discard) :
        pressByte p s b = s.modPort p (fun x => { x with rx := (rxByte (s.port p).rx b).1 }) := by
      rcases hb with hb | hb <;> simp only [pressByte, hb]
    have hrest : ∀ e ∈ (rxRun (rxByte (s.port p).rx b).1 bytes).2, e = .discard := by
      intro e he
      refine h e ?_
      simp only [rxRun]
      split
      · exact he
      · exact List.mem_cons_of_mem _ he
    have hb : (rxByte (s.port p).rx b).2 = .nothing ∨ (rxByte (s.port p).rx b).2 = .discard := by
      by_cases hn : (rxByte (s.port p).rx b).2 = .nothing
      · exact .inl hn
      · exact .inr (h _ (by simp [rxRun, hn]))
    rw [List.foldl_cons, hpress hb, ih (by simpa using hrest)]
    simp [State.modPort, State.setPort, State.port, rxRun]

/-- The port's receiver as it was: nothing has changed. -/
theorem modPort_rx {r : Rx} (h : (s.port p).rx = r) : s.modPort p (fun x => { x with rx := r }) = s := by
  conv => rhs; rw [← modPort_id (s := s) (p := p)]
  simp [State.modPort, ← h]

/-- The bytes of a frame present it to a HUNTING receiver of a press link. -/
theorem foldl_pressByte_frameBytes {f : Frame} (hL : f.payload.length ≤ maxPayload) (hrx : (s.port p).rx = .hunting) :
    (frameBytes f).foldl (pressByte p) s = closeAct (pressFrame p f s) := by
  obtain ⟨front, last, hw, hfront, hlast⟩ := (announces_collected f hL).split
  rw [rxJudge_whole hL] at hlast
  have hsilent : (syncByte :: front).foldl (pressByte p) s = s.modPort p (fun x => { x with rx := .inFrame front }) := by
    rw [foldl_pressByte_noFrame (by simp [hrx, hfront]), hrx, hfront]
  rw [frameBytes_eq, hw, ← List.cons_append, List.foldl_append, hsilent]
  have hback : (s.modPort p fun x => { x with rx := .inFrame front }).modPort p (fun x => { x with rx := .hunting }) = s := by
    conv => rhs; rw [← modPort_rx hrx]
    simp [State.modPort, State.setPort, State.port]
  simp [pressByte, hlast, hback]

/-- An event without effect ends its act. -/
theorem act_nothing : act (fun s => (s, [])) s = pump (flushNotes (openAct s)) := by simp [act, closeAct]

/-- A report row and the frame it stands for are one event; a frame that no row stands for has no effect (R86). -/
theorem act_pressFrame {f : Frame} :
    (∀ i, reportOf p f = some i → exec i s = .next (act (pressFrame p f) s))
      ∧ (reportOf p f = none → pressFrame p f = fun s => (s, [])) := by
  have h := pressFrame_report p f
  generalize pressFrame p f = e at h
  cases h with
  | none h => exact ⟨fun i hi => absurd (h.symm.trans hi) nofun, fun _ => rfl⟩
  | hello tag c d m z w =>
    by_cases hf : c.toNat ≤ 1 ∧ d.toNat ≤ 1
    · have hr : reportOf p ⟨0x41, tag, [c, d, m, z, w]⟩ = some (.hello p c d m z w) := if_pos hf
      rw [hr]
      exact ⟨fun i hi => by cases hi; rfl, nofun⟩
    · have hr : reportOf p ⟨0x41, tag, [c, d, m, z, w]⟩ = none := if_neg hf
      rw [hr]
      refine ⟨nofun, fun _ => funext fun t => ?_⟩
      unfold helloFrame colour? flag?
      split
      · rename_i hc hd
        exact absurd ⟨by revert hc; split <;> simp_all, by revert hd; split <;> simp_all⟩ hf
      · rfl
  | taken tag => exact ⟨fun i hi => by cases hi; rfl, nofun⟩
  | out tag => exact ⟨fun i hi => by cases hi; rfl, nofun⟩
  | jam tag l n =>
    by_cases hf : l.toNat ≤ 15
    · have hr : reportOf p ⟨0x44, tag, [l, n]⟩ = some (.jam p l n) := if_pos hf
      rw [hr]
      exact ⟨fun i hi => by cases hi; rfl, nofun⟩
    · have hr : reportOf p ⟨0x44, tag, [l, n]⟩ = none := if_neg hf
      rw [hr]
      exact ⟨nofun, fun _ => funext fun t => if_pos (by omega)⟩
  | clear tag => exact ⟨fun i hi => by cases hi; rfl, nofun⟩
  | state tag r d m =>
    by_cases hf : r.toNat ≤ 1 ∧ d.toNat ≤ 1
    · have hr : reportOf p ⟨0x46, tag, [r, d, m]⟩ = some (.state p r d m) := if_pos hf
      rw [hr]
      exact ⟨fun i hi => by cases hi; rfl, nofun⟩
    · have hr : reportOf p ⟨0x46, tag, [r, d, m]⟩ = none := if_neg hf
      rw [hr]
      refine ⟨nofun, fun _ => funext fun t => ?_⟩
      unfold stateFrame flag?
      split
      · rename_i hc hd
        exact absurd ⟨by revert hc; split <;> simp_all, by revert hd; split <;> simp_all⟩ hf
      · rfl

/-- Settles O6. -/
theorem pressFrameIsReport : Obligations.PressFrameIsReport := by
  intro p f s hrx ignored
  have hrx' : ((openAct s).port p).rx = .hunting := by simpa [State.port] using hrx
  have hignored {bytes : List Byte} {events : List RxEvent} (hrun : rxRun .hunting bytes = (.hunting, events))
      (he : ∀ e ∈ events, e = .discard) : ignored bytes := by
    refine congrArg Host.Outcome.next ?_
    rw [foldl_pressByte_noFrame (by simpa [hrx', hrun] using he), hrx', hrun, modPort_rx hrx']
  refine ⟨fun hl => ⟨fun i hi => ?_, fun hn => ?_⟩, fun skipped hs => ⟨hignored (rxRun_skipped hs) nofun,
    fun check hl hc hne => hignored (rxRun_wrongCheck hl hc hne hs) (by simp),
    fun hi lo h => hignored (rxRun_tooLong h hs) (by simp)⟩⟩
  · rw [act_pressFrame.1 i hi]
    exact congrArg Host.Outcome.next (foldl_pressByte_frameBytes hl hrx')
  · have hfold := foldl_pressByte_frameBytes hl hrx'
    rw [act_pressFrame (s := s).2 hn] at hfold
    exact congrArg Host.Outcome.next (hfold.trans act_nothing)

end Sys2Proof.Machine
end

section
/-! PROOF. A request that is taken, whatever its kind: the MLC's checks, its owner's answer, its reply (R5, R6, R169). -/

namespace Sys2Proof.Machine

variable {s : State} {i : Instr} {f : Frame}

/-! ### The frame of a request row -/

/-- The payload of a well-formed request fits a frame (R1). -/
theorem payload_of_wf (hw : i.wf = true) (h : requestOf i = some f) : f.payload.length ≤ maxPayload := by
  cases i <;> cases h
  case unknownKind kind tag payload =>
    by_contra hlong
    have hlong : maxPayload < payload.length := Nat.lt_of_not_le hlong
    simp [Instr.wf, Instr.check, wfWhen, hlong] at hw
  case sheetData tag job data =>
    have hdata : ¬ 1024 < data.length := by
      intro hlong
      simp [Instr.wf, Instr.check, tagCheck, wfWhen, hlong] at hw
    simp [maxPayload]; omega
  all_goals simp [maxPayload, wordBytes, jobFrame]

/-- A request's arrival, when its frame fits the link, is its presentation. -/
theorem exec_request_present (h : requestOf i = some f) (hl : f.payload.length ≤ maxPayload) :
    exec i s = .next (closeAct (present f (takeByKind f.kind.toNat f.payload) (openAct s))) := by
  rw [exec_request h, hostRequest, if_neg (by omega), BitVec.ofNat_toNat, BitVec.setWidth_eq]
  rfl

/-- Settles O5: both the frame's bytes and the row present the frame to its owner. -/
theorem hostFrameIsRequest : Obligations.HostFrameIsRequest := by
  intro i f s hw h hrx
  have hl := payload_of_wf hw h
  rw [exec_hostFrameReceived_frameBytes hl hrx, exec_request_present h hl]
  rfl

/-! ### The answer of a request's owner -/

/-- Command `i`, run on `s`, is request `f`, taken, and its owner's answer to it is `k`. -/
def Asks (i : Instr) (s : State) (f : Frame) : Answer → Prop
  | .error e => Answers i s f e [] s.taking
  | .ok r => AnswersThen i s f r.contents r.tasks r.st

theorem Asks.refused {k : Answer} {e : Status} (h : Asks i s f k) (hk : k = .error e) : Answers i s f e [] s.taking := by
  subst hk; exact h

theorem Asks.answers {contents : List Byte} {k : Answer} {w : State} (h : Asks i s f k)
    (hk : k = .ok { contents := contents, st := w }) : Answers i s f .ok contents w := by
  subst hk
  have h : Ends i s (cascade [] (answer f .ok contents w)) := h
  rwa [cascade_nil] at h

theorem Asks.settles {contents : List Byte} {k : Answer} {w : State} (h : Asks i s f k)
    (hk : k = .ok { contents := contents, st := w, tasks := [.settle] }) : AnswersSettled i s f contents w := by
  subst hk
  have h : Ends i s (cascade [.settle] (answer f .ok contents w)) := h
  rwa [cascade_settle] at h

theorem Asks.followed {contents : List Byte} {k : Answer} {w : State} {ts : List Task} (h : Asks i s f k)
    (hk : k = .ok { contents := contents, st := w, tasks := ts }) : AnswersThen i s f contents ts w := by
  subst hk; exact h

/-- No kind accepts a payload longer than a frame may carry. -/
theorem kindLengths_le {k lo hi : Nat} (h : kindLengths k = some (lo, hi)) : hi ≤ maxPayload := by
  revert h
  unfold kindLengths maxPayload
  split <;> intro h <;> simp only [Option.some.injEq, Prod.mk.injEq, reduceCtorEq] at h <;> omega

/-- A request that passes the MLC's checks is put to its owner. -/
theorem asks {kind lo hi : Nat} {tag : Byte} {payload : List Byte} {h : Handler} (htag : tag ≠ 0) (ht : s.takes)
    (hexec : exec i s = .next (hostRequest kind tag payload h s))
    (hk : kindLengths (BitVec.ofNat 8 kind).toNat = some (lo, hi)) (hl : lo ≤ payload.length ∧ payload.length ≤ hi) :
    Asks i s { kind := BitVec.ofNat 8 kind, tag := tag, payload := payload } (h s.dt.routeMask s.taking) := by
  have hp : payload.length ≤ maxPayload := hl.2.trans (kindLengths_le hk)
  have hm := mlcCheck_eq_none htag hk hl
  generalize hh : h s.dt.routeMask s.taking = k
  match k with
  | .error e => exact answers_of_error hexec ht hp hm hh
  | .ok r => rw [Asks, AnswersThen, Ends, hexec, hostRequest_ok ht hp hm hh, closeAct]

/-! ### Every request taken is answered (R5, R6) -/

/-- The frame a request's row hands on is the frame it stands for. -/
theorem frame_eta (f : Frame) : ({ kind := BitVec.ofNat 8 f.kind.toNat, tag := f.tag, payload := f.payload } : Frame) = f := by
  rw [BitVec.ofNat_toNat, BitVec.setWidth_eq]

section Taken

variable (h : requestOf i = some f) (hl : f.payload.length ≤ maxPayload) (ht : s.takes)

include h hl ht

/-- A request taken that fails the MLC's checks. -/
theorem answers_of_bad {e : Status} (hm : mlcCheck f.kind f.tag f.payload.length = some e) :
    Answers i s f e [] s.taking := by
  have hm' : mlcCheck (BitVec.ofNat 8 f.kind.toNat) f.tag f.payload.length = some e := by simpa using hm
  rw [Answers, Ends, exec_request h, hostRequest_bad ht hl hm', frame_eta, closeAct_nil]

/-- A request taken that passes them. -/
theorem asks_of_passes (hm : mlcCheck f.kind f.tag f.payload.length = none) :
    Asks i s f (takeByKind f.kind.toNat f.payload s.dt.routeMask s.taking) := by
  have hm' : mlcCheck (BitVec.ofNat 8 f.kind.toNat) f.tag f.payload.length = none := by simpa using hm
  generalize hk : takeByKind f.kind.toNat f.payload s.dt.routeMask s.taking = k
  match k with
  | .error e =>
    rw [Asks, Answers, Ends, exec_request h, hostRequest_error ht hl hm' hk, frame_eta, closeAct_nil]
  | .ok r => rw [Asks, AnswersThen, Ends, exec_request h, hostRequest_ok ht hl hm' hk, frame_eta, closeAct]

end Taken

/-- The end of an act that answers a request leaves the reply in the holding area. -/
theorem replies_answered {r : State × List Task} {status : Status} {contents : List Byte} {w : State}
    (hr : r.1 = answer f status contents w) (hw : w.replies = s.replies) :
    (closeAct r).replies = s.replies ++ [(f, some (replyFrame f status contents))] := by
  rw [replies_closeAct, hr, answer_replies, hw]

theorem replies_taking : s.taking.replies = s.replies := rfl

/-- A request that is taken is answered, and changes nothing but the route mask where it is refused. -/
theorem answered_of_takes (h : requestOf i = some f) (hl : f.payload.length ≤ maxPayload) (ht : s.takes) :
    ∃ t status contents, exec i s = .next t
      ∧ t.replies = s.replies ++ [(f, some (replyFrame f status contents))]
      ∧ (status ≠ .ok → Answers i s f status [] s.taking) := by
  have refused {e : Status} (ha : Answers i s f e [] s.taking) : ∃ t status contents, exec i s = .next t
      ∧ t.replies = s.replies ++ [(f, some (replyFrame f status contents))]
      ∧ (status ≠ .ok → Answers i s f status [] s.taking) := by
    refine ⟨_, e, [], ha, ?_, fun _ => ha⟩
    rw [← closeAct_nil]
    exact replies_answered rfl replies_taking
  cases hm : mlcCheck f.kind f.tag f.payload.length with
  | some e => exact refused (answers_of_bad h hl ht hm)
  | none =>
    have hasks := asks_of_passes h hl ht hm
    have hareas := takeByKind_areas f.kind.toNat f.payload s.dt.routeMask s.taking
    match hk : takeByKind f.kind.toNat f.payload s.dt.routeMask s.taking with
    | .error e => exact refused (hasks.refused hk)
    | .ok r =>
      rw [hk, leaves_ok] at hareas
      rw [hk] at hasks
      exact ⟨_, .ok, r.contents, hasks,
        replies_answered (r := (_, r.tasks)) rfl (congrArg (List.map _) hareas.holding), fun hne => absurd rfl hne⟩

/-- Settles O8: a request passes the MLC's checks or not, and its owner accepts it or not. -/
theorem requestsAnswered : Obligations.RequestsAnswered := by
  refine ⟨fun i f s hw h ht => answered_of_takes h (payload_of_wf hw h) ht, ?_⟩
  intro kind tag payload s hl ht i f
  have bad {e : Status} (hm : mlcCheck kind tag payload.length = some e) : Answers i s f e [] s.taking :=
    answers_of_bad rfl hl ht hm
  refine ⟨fun htag => bad (if_pos htag), fun htag hk => bad ?_, fun lo hi htag hk hout => bad ?_⟩
  · simp only [mlcCheck, if_neg htag, hk]
  · simp only [mlcCheck, if_neg htag, hk, if_neg (show ¬ (lo ≤ payload.length ∧ payload.length ≤ hi) by omega)]

/-! ### A save in progress (R169) -/

theorem unlessSaving_of_some (h : s.ss.saving ≠ none) (k : Answer) : unlessSaving s k = .error .saving :=
  if_pos (Option.isSome_iff_ne_none.mpr h)

/-- Both forms of PORT_SET ask whether a save is in progress. -/
theorem doPortSet_saving (h : s.ss.saving ≠ none) (port : Nat) {window progress wake idle rate slowFloor lampMode : Nat} :
    doPortSet port window progress wake idle rate slowFloor lampMode s = .error .saving := by
  unfold doPortSet
  split
  · exact unlessSaving_of_some h _
  · exact unlessSaving_of_some h _

/-- Settles O9: each of these owners asks first whether a save is in progress. -/
theorem savingRefusesSettings : Obligations.SavingRefusesSettings := by
  intro i f s h htag ht hs hkind
  have hno (k : Answer) : unlessSaving s.taking k = .error .saving := unlessSaving_of_some (s := s.taking) hs k
  cases i <;> simp only at hkind <;> cases h
  case routeSet => exact (asks htag ht rfl rfl (by simp)).refused (hno _)
  case portSet => exact (asks htag ht rfl rfl ⟨Nat.le_refl _, Nat.le_refl _⟩).refused (doPortSet_saving (s := s.taking) hs _)
  all_goals exact (asks htag ht rfl rfl ⟨Nat.le_refl _, Nat.le_refl _⟩).refused (hno _)

end Sys2Proof.Machine
end

section
/-! PROOF. The notices of an act, resets and restarts, saves, the requests of the message link itself, and the clock
(R7, R10 to R15, R33, R93, R166 to R171). -/

namespace Sys2Proof.Machine

variable {s : State}

/-! ### The notices of an act (R8, R33, R93) -/

/-- Notices that find room join the queue in their order. -/
theorem foldl_pushNotice {l : List Notice} (h : s.mlc.notices.length + l.length ≤ 32) :
    l.foldl (fun s n => pushNotice n s) s = { s with mlc := { s.mlc with notices := s.mlc.notices ++ l } } := by
  induction l generalizing s with
  | nil => simp
  | cons n l ih =>
    rw [List.length_cons] at h
    have hroom : s.mlc.notices.length < 32 := by omega
    have hpush : pushNotice n s = { s with mlc := { s.mlc with notices := s.mlc.notices ++ [n] } } := if_pos hroom
    rw [List.foldl_cons, hpush, ih (by simp; omega)]
    simp

/-- A note of the act becomes one notice at most. -/
theorem actNotices_length : (actNotices s).length ≤ s.notes.length := by
  unfold actNotices
  induction s.notes with
  | nil => rfl
  | cons n l ih =>
    rw [List.length_append] at ih ⊢
    cases n <;> simp only [List.filterMap_cons, portNotice, otherNotice, List.length_cons]
    case job num reason =>
      split
      · omega
      · rw [List.length_cons]; omega
    all_goals omega

/-- With room for its notices, an act's end appends them. -/
theorem flushNotes_eq (h : s.mlc.notices.length + s.notes.length ≤ 32) : flushNotes s
    = { s with notes := [], mlc := { s.mlc with notices := s.mlc.notices ++ actNotices s } } := by
  have hlen := actNotices_length (s := s)
  exact foldl_pushNotice (s := { s with notes := [] }) (by simp; omega)

/-- Settles O11. -/
theorem actNotices_inOrder : Obligations.ActNotices := by
  intro s h
  rw [flushNotes_eq h]
  refine ⟨rfl, rfl, ?_⟩
  rw [List.append_assoc]
  refine congrArg _ (congrArg₂ (· ++ ·) ?ports ?others)
  case ports => exact List.filterMap_congr fun n _ => by cases n <;> rfl
  case others => exact List.filterMap_congr fun n _ => by cases n <;> rfl

/-! ### A state at rest: nothing follows a reset (R30, R88, R155) -/

/-- The part holds no job, every link is DOWN in AUTO, every alert entry is off and nothing waits to be sent. -/
structure Rested (s : State) : Prop where
  port : ∀ p, ∃ m, s.port p = { meters := m }
  queue : ∀ d, s.queue d = []
  alert : ∀ e, s.alert e = {}
  notes : s.notes = []
  notices : s.mlc.notices = []
  holding : s.mlc.holding = []

section Rested

variable (h : Rested s)

include h

theorem Rested.noDemand (p : PortNo) : demand s p = false := by
  obtain ⟨m, hm⟩ := h.port p
  simp [demand, wakeDemand, hm, h.queue]

theorem Rested.lampsNow (p : PortNo) : s.lampsNow p = {} := by
  obtain ⟨m, hm⟩ := h.port p
  simp [State.lampsNow, State.anyEntry, h.alert, hm, Port.usable, latchedKinds, selfClearingKinds]

/-- A port at rest stays as it is when what it depends on is brought up to date. -/
theorem Rested.settlePort (p : PortNo) : settlePort p s = s := by
  obtain ⟨m, hm⟩ := h.port p
  have hwake : wakeTable p s = s := by simp [wakeTable, hm, h.noDemand]
  have hset {f : Port → Port} (hf : f (s.port p) = s.port p) : s.modPort p f = s := by
    conv => rhs; rw [← modPort_id (s := s) (p := p)]
    simp [State.modPort, hf]
  have hbusy : checkBusy p s = s := by
    unfold checkBusy
    split
    · rfl
    · exact hset (by rw [hm])
  have hlamps : evalLamps p s = s := by
    unfold evalLamps
    split
    · rfl
    · exact hset (by rw [hm, h.lampsNow])
  rw [Machine.settlePort, hwake, hbusy, hlamps]

theorem Rested.settle : settle s = s := by
  unfold Machine.settle
  induction allPorts with
  | nil => rfl
  | cons p l ih => rw [List.foldl_cons, h.settlePort, ih]

theorem Rested.flushNotes : flushNotes s = s := flushNotes_nil h.notes

theorem Rested.pump : pump s = s := by
  have hr : readyReply s.mlc = none := readyReply_eq_none (by simp [h.holding])
  unfold Machine.pump
  split
  · exact pickFrame_nothing h.notices hr
  · rfl

end Rested

/-- SPOOL_LOW stays off while the free count is not below the threshold. -/
theorem evalSpoolLow_off (hl : s.smm.low = false) (h : s.cfg.lowSpool ≤ s.smm.free.length) : evalSpoolLow s = s := by
  have : s.spoolLowNow = false := by simp [State.spoolLowNow, h]
  rw [evalSpoolLow, this, hl, if_pos rfl]

/-- The end of a reset: SPOOL_LOW and the wake rules are evaluated, and the act ends. -/
theorem closeAct_endReset (t : State) : closeAct (endReset t) = pump (flushNotes (settle (evalSpoolLow t))) := by
  rw [endReset, closeAct, cascade_settle]

/-- With no block short, nothing follows a reset. -/
theorem Rested.closeAct_endReset {t : State} (h : Rested t) (hl : t.smm.low = false)
    (hfree : t.cfg.lowSpool ≤ t.smm.free.length) : closeAct (endReset t) = t := by
  rw [Machine.closeAct_endReset, evalSpoolLow_off hl hfree, h.settle, h.flushNotes, h.pump]

theorem rested_coldStart (size : Fin 4) (stored : Option SettingsImage) : Rested (coldStart size stored s) where
  port p := ⟨{}, by simp [State.port, coldStart, State.boot]⟩
  queue d := by simp [State.queue, coldStart, State.boot]
  alert e := by simp [State.alert, coldStart, State.boot]
  notes := rfl
  notices := rfl
  holding := rfl

theorem rested_warmStart : Rested (warmStart s) where
  port p := ⟨(s.port p).meters, by simp [State.port, warmStart, Vector.map]⟩
  queue d := by simp [State.queue, warmStart, State.boot]
  alert e := by simp [State.alert, warmStart, State.boot]
  notes := rfl
  notices := rfl
  holding := rfl

/-! ### Resets (R15, R167, R170) -/

theorem length_free_boot (size : Fin 4) (g : Settings) : (State.boot size g).smm.free.length = blockCount size :=
  List.length_range

/-- What a reset that loads the image leaves: `coldStart`, and nothing more with enough blocks for the threshold. -/
theorem closeAct_coldStart {size : Fin 4} {stored : Option SettingsImage} {t : State} {g : Settings} {d : Bool}
    (hload : loadImage stored = (g, d)) (ht : t = { State.boot size g with
      mlc := { defaultsLoaded := d }, ss := { stored := stored, saving := none }, base := { acts := s.base.acts }
      freeCount := s.freeCount, pending := s.pending }) :
    closeAct (endReset (coldStart size stored s)) = pump (flushNotes (settle (evalSpoolLow t)))
      ∧ (g.lowSpool ≤ blockCount size → closeAct (endReset (coldStart size stored s)) = t) := by
  have hcold : coldStart size stored s = t := by rw [ht, coldStart, hload]; rfl
  refine ⟨by rw [closeAct_endReset, hcold], fun hlow => ?_⟩
  have hrest : Rested t := hcold ▸ rested_coldStart size stored
  rw [hcold]
  exact hrest.closeAct_endReset (by rw [ht]; rfl) (by rw [ht]; exact hlow.trans_eq (length_free_boot size g).symm)

theorem loadImage_valid {m : SettingsImage} (hc : m.check = Config.imageCheck m.contents)
    (hv : m.contents.valid = true) : loadImage (some m) = (m.contents, false) :=
  if_pos (by simp [SettingsImage.passes, hc, hv])

theorem loadImage_invalid {m : SettingsImage} (h : m.contents.valid = false) :
    loadImage (some m) = (Settings.factory, true) := if_neg (by simp [SettingsImage.passes, h])

theorem loadImage_wrongCheck {m : SettingsImage} (h : m.check ≠ Config.imageCheck m.contents) :
    loadImage (some m) = (Settings.factory, true) := if_neg (by simp [SettingsImage.passes, h])

/-- Settles O13. -/
theorem powerOnLoads : Obligations.PowerOnLoads := by
  refine ⟨?image, fun m => loadImage_wrongCheck, rfl, ?_⟩
  case image =>
    intro g m
    exact ⟨fun hv => ⟨loadImage_valid (m := m) rfl hv, Settings.active_of_valid hv⟩,
      fun hv => loadImage_invalid (m := m) hv⟩
  intro strap touched s g d stored size hload t
  have hcut : cutOff (openAct s).ss touched = stored := by
    show cutOff s.ss touched = stored
    simp only [cutOff, stored, Bool.and_eq_true, Option.isSome_iff_ne_none]
  have hsize : Fin.ofNat 4 strap.toNat = size := by
    apply Fin.ext
    simp [size]
    omega
  have hexec : exec (.powerOn strap touched) s = .next (closeAct (endReset (coldStart size stored (openAct s)))) := by
    rw [← hcut, ← hsize]; rfl
  have hcold := closeAct_coldStart (s := openAct s) (size := size) hload (t := t) rfl
  exact ⟨hexec.trans (congrArg _ hcold.1), fun hlow => hexec.trans (congrArg _ (hcold.2 hlow)), rfl⟩

/-! ### Restarts (R10, R171) -/

/-- The reply of an accepted RESTART announces it as it goes. -/
theorem announcing_restart {tag : Byte} (h : s.mlc.tx = .sending ⟨0x85, tag, [0]⟩ true) :
    s.mlc.announcing = s.mlc.restart := by
  simp [Mlc.announcing, h]

/-- RESTART_BEGIN and FRAME_SENT carry the announced restart out. -/
theorem exec_restartBegin {k : RestartKind} (h : s.mlc.announcing = some k) :
    exec .restartBegin s = .next (closeAct (restartNow k (openAct s)))
      ∧ exec .frameSent s = .next (closeAct (restartNow k (openAct s))) := by
  have h' : (openAct s).mlc.announcing = some k := h
  refine ⟨?_, by rw [exec_frameSent, endFrame, h']⟩
  show Host.Outcome.next (closeAct (match (openAct s).mlc.announcing with
    | some k => restartNow k (openAct s)
    | none => (openAct s, []))) = _
  rw [h']

/-- Settles O12. -/
theorem restarts : Obligations.Restarts := by
  refine ⟨fun tag s htag ht hs => ?accepted, fun s tag htx => ⟨?cold, ?warm, fun hk => ?same⟩⟩
  case accepted =>
    have hno (k : Answer) : unlessSaving s.taking k = k := unlessSaving_of_none (s := s.taking) hs k
    exact ⟨(asks htag ht rfl rfl ⟨Nat.le_refl _, Nat.le_refl _⟩).answers (hno _),
      (asks htag ht rfl rfl ⟨Nat.le_refl _, Nat.le_refl _⟩).answers (hno _)⟩
  case cold =>
    intro g d hk hload t
    obtain ⟨hexec, -⟩ := exec_restartBegin ((announcing_restart htx).trans hk)
    have hcold := closeAct_coldStart (s := openAct s) (size := s.smm.sizeClass) hload (t := t) rfl
    exact ⟨hexec.trans (congrArg _ hcold.1), fun hlow => hexec.trans (congrArg _ (hcold.2 hlow))⟩
  case warm =>
    intro hk t
    obtain ⟨hexec, -⟩ := exec_restartBegin ((announcing_restart htx).trans hk)
    have hwarm : warmStart (openAct s) = t := rfl
    refine ⟨hexec.trans (congrArg _ ?_), fun hlow => hexec.trans (congrArg _ ?_)⟩
    · rw [restartNow, closeAct_endReset, hwarm]
    · exact (rested_warmStart (s := openAct s)).closeAct_endReset rfl (hlow.trans_eq (length_free_boot _ s.cfg).symm)
  case same =>
    obtain ⟨k, hk⟩ := Option.ne_none_iff_exists'.mp hk
    obtain ⟨hbegin, hsent⟩ := exec_restartBegin ((announcing_restart htx).trans hk)
    rw [hbegin, hsent]

/-! ### SAVE (R166, R168) -/

/-- Settles O14. -/
theorem saveAndItsEnd : Obligations.SaveAndItsEnd := by
  refine ⟨fun tag s htag ht hs => ?save, fun s g hg => ?saved, fun s g hg => ⟨Config.imageAfterFault s.freeCount, ?failed⟩⟩
  case save =>
    exact (asks htag ht rfl rfl ⟨Nat.le_refl _, Nat.le_refl _⟩).answers (unlessSaving_of_none (s := s.taking) hs _)
  case saved =>
    have hexec : exec (.saveWriteEnd true) s = .next (closeAct (saveEnds true (openAct s), [])) := rfl
    have hg' : (openAct s).ss.saving = some g := hg
    rw [Ends, hexec, closeAct_nil, saveEnds, hg']
    rfl
  case failed =>
    have hexec : exec (.saveWriteEnd false) s = .next (closeAct (saveEnds false (openAct s), [])) := rfl
    have hg' : (openAct s).ss.saving = some g := hg
    rw [Ends, hexec, closeAct_nil, saveEnds, hg']
    rfl

/-! ### STATUS, IDENTIFY and CLOCK_SET (R12, R14, R15) -/

/-- Settles O15. -/
theorem linkRequests : Obligations.LinkRequests := by
  intro tag s htag ht contents
  have hflags : s.taking.mlc.flags = (if s.mlc.resetSeen then 1 else 0) + (if s.mlc.clockUnset then 2 else 0)
      + (if s.mlc.defaultsLoaded then 4 else 0) := by
    show s.mlc.flags = _
    simp only [Mlc.flags, flagByte]
    cases s.mlc.resetSeen <;> cases s.mlc.clockUnset <;> cases s.mlc.defaultsLoaded <;> rfl
  have hstatus : s.taking.statusReport = contents := by
    simp only [State.statusReport, hflags, State.countIn, ← List.countP_eq_length_filter]
    rfl
  refine ⟨by simp [contents, be16, be8, be32], ?status, ?identify, fun value => ?clock⟩
  case status =>
    rw [← hstatus]
    exact (asks htag ht rfl rfl ⟨Nat.le_refl _, Nat.le_refl _⟩).answers rfl
  case identify => exact (asks htag ht rfl rfl ⟨Nat.le_refl _, Nat.le_refl _⟩).answers rfl
  case clock =>
    exact (asks (h := fun _ => doClockSet value.toNat) htag ht rfl rfl ⟨Nat.le_refl _, Nat.le_refl _⟩).answers rfl

/-! ### The clock (R11, R12, R156) -/

/-- An increment that no schedule waits for examines none. -/
theorem examineSchedule_nothing (h : ∀ x ∈ s.cfg.schedule, s.clock < x.time) : examineSchedule s = (s, []) := by
  unfold examineSchedule
  split
  · rfl
  · next x hx => exact if_neg (Nat.not_le.mpr (h x hx))

theorem dueNext_eq_false (h : ∀ x ∈ s.cfg.schedule, s.nextClock < x.time) : s.dueNext = false := by
  unfold State.dueNext
  split
  · rfl
  · next x hx => exact decide_eq_false (Nat.not_le.mpr (h x hx))

/-- Settles O16. -/
theorem tickCounts : Obligations.TickCounts := by
  intro s next reaches
  obtain ⟨hnow, hnext, hreach⟩ := nextMoment_bounds (s := s)
  refine ⟨⟨_, rfl, hnow, hnext, hreach⟩, fun hsched => ⟨⟨(countSecond (openAct s)).au.horn, ?horn, ?tick⟩, ?due⟩⟩
  case horn =>
    exact hornNow_iff (s := { openAct s with
      mlc := { s.mlc with clock := s.nextClock, clockUnset := s.mlc.clockUnset || decide (max32 ≤ s.clock) }
      base := { (openAct s).base with now := next, secondAt := next } })
  case tick =>
    have hclock : s.nextClock = if s.mlc.clock < 4294967295 then s.mlc.clock + 1 else 0 := by
      by_cases h : s.mlc.clock < 4294967295
      · rw [if_pos h]; exact if_neg (Nat.not_le.mpr h)
      · rw [if_neg h]; exact if_pos (Nat.not_lt.mp h)
    have hexec : exec .shopClockTick s = .next (closeAct (examineSchedule (countSecond (openAct s)))) := rfl
    have hstate : countSecond (openAct s) = { openAct s with
        mlc := { s.mlc with
          clock := if s.mlc.clock < 4294967295 then s.mlc.clock + 1 else 0
          clockUnset := s.mlc.clockUnset || decide (4294967295 ≤ s.mlc.clock) }
        au := { s.au with horn := (countSecond (openAct s)).au.horn }
        base := { now := next, secondAt := next, acts := s.base.acts + 1 } } := by
      rw [← hclock]; rfl
    rw [Ends, hexec, examineSchedule_nothing (s := countSecond (openAct s)) hsched, closeAct_nil, ← hstate]
  case due =>
    have hdue : (openAct s).dueNext = false := dueNext_eq_false (s := openAct s) hsched
    have hexec : exec .cutoverScheduleDue s = .next (closeAct (if (openAct s).dueNext then
      examineSchedule (countSecond (openAct s)) else (openAct s, []))) := rfl
    rw [Ends, hexec, hdue, if_neg (by simp), closeAct_nil]

/-! ### The invariants at reset -/

/-- Settles O60: at reset every table is empty, every entry quiet and every link DOWN. -/
theorem invariantsAtReset : Obligations.InvariantsAtReset := by
  have halert (e : EntryNo) : State.reset.alert e = {} := by simp [State.alert, State.reset, State.boot]
  have hport (p : PortNo) : State.reset.port p = {} := by simp [State.port, State.reset, State.boot]
  refine ⟨?link, ?jobs, spoolPartition_iff.mpr (parted_boot 0 _ rfl), reset_spool_wf, ?active, ?alerts, ?sources, ?windows,
    ?horn, ?time⟩
  case link => simp [LinkBounds, State.reset, State.boot]
  case jobs => simp [JobNumbers, State.reset, State.boot]
  case active =>
    show Settings.factory.active.check = 0
    decide +kernel
  case alerts =>
    refine ⟨fun e => by rw [halert]; rfl, List.nodup_nil, fun e => ?_⟩
    rw [halert]
    exact ⟨nofun, by simp⟩
  case sources =>
    refine ⟨fun p k _ => ?_, by rw [halert]; rfl⟩
    rw [halert, hport]
    cases k <;> rfl
  case windows =>
    rw [windowsHold_iff]
    intro p
    rw [hport]
    exact ⟨rfl, fun _ => rfl⟩
  case horn =>
    refine ⟨nofun, fun ⟨_, _, e, he, _⟩ => ?_⟩
    rw [halert] at he
    cases he
  case time =>
    refine ⟨Nat.le_refl _, Nat.zero_le _, fun e => ?_⟩
    rw [halert]
    exact Nat.le_refl _

end Sys2Proof.Machine
end

section
/-! PROOF. The job actions that the host and the panels share: hold, release, cancel, suspend, resume (R44 to R49, R77 to
R84). -/

namespace Sys2Proof.Machine

variable {s t : State} {n : Nat} {j : Job} {p : PortNo} {st : JobState} {r : JobReason}

/-! ### A job action and what follows it -/

section Verb

variable {v : JobVerb} {w : Who} {job : Half} {f : State → State} {ts : List Task}

/-- An accepted job action, asked by the host or by a panel, with what follows from it. -/
theorem jobThen_of (h : ∀ t, Sees s t → doVerb v w job.toNat t = .ok { st := f t, tasks := ts }) :
    JobThen v w job s ts f := by
  cases w with
  | host =>
    intro tag htag ht
    have ha : Asks (v.host tag job) s (jobFrame v.kind tag job) (doVerb v .host job.toNat s.taking) := by
      have hm := asks_of_passes (s := s) (i := v.host tag job) (f := jobFrame v.kind tag job) (by cases v <;> rfl)
        (by simp [jobFrame, maxPayload]) ht (by simpa [jobFrame] using verb_check v tag job htag)
      cases v <;> simpa [takeByKind, jobFrame, JobVerb.kind, doVerb] using hm
    exact ha.followed (h _ (sees_taking s))
  | panel =>
    intro a number ha
    have hok := onAnswer_ok ha (by cases v <;> decide) ((verb_action v a job number s ha).trans (h _ (sees_heard s a)))
    have hnote : panelEvent a 2 v.code.toNat job.toNat Status.ok.code
        = [BitVec.ofNat 8 a.val, 2, v.code] ++ be16 job.toNat ++ [0] := by simp [panelEvent, be8, Status.code]
    rw [Ends, verb_panel_exec, hok, hnote, closeAct]

/-- An accepted job action that nothing follows from. -/
theorem jobAction_alone (h : ∀ t, Sees s t → doVerb v w job.toNat t = .ok { st := f t }) :
    JobAction v w job s id f := by
  cases w with
  | host =>
    intro tag htag ht
    have ha := jobThen_of (w := .host) (s := s) h tag htag ht
    rwa [AnswersThen, cascade_nil] at ha
  | panel =>
    intro a number ha
    have ha := jobThen_of (w := .panel) (s := s) h a number ha
    rw [List.nil_append, cascade_note] at ha
    exact ha

/-- An accepted job action after which the floor is brought up to date. -/
theorem jobAction_settles (h : ∀ t, Sees s t → doVerb v w job.toNat t = .ok { st := f t, tasks := [.settle] }) :
    JobAction v w job s settle f :=
  jobAction_of v w job s f (fun _ => []) h fun _ _ _ _ _ hk => absurd hk List.not_mem_nil

end Verb

/-- The job after an update that keeps its number. -/
theorem job?_modJob_self {f : Job → Job} (hf : ∀ j, (f j).num = j.num) (hj : s.job? n = some j) :
    (s.modJob n f).job? n = some (f j) := by
  rw [job?_modJob hf, if_pos rfl, hj]
  rfl

/-! ### The slots a job may be found in -/

theorem Sees.slotless (h : Sees s t) (hs : s.slotless n) : t.slotless n := fun q => by rw [h.port]; exact hs q
theorem Sees.runsAt (h : Sees s t) (hs : s.runsAt p n) : t.runsAt p n := fun q => by rw [h.port]; exact hs q
theorem Sees.suspendedAt {why : SuspReason} (h : Sees s t) (hs : s.suspendedAt p n why) : t.suspendedAt p n why := by
  obtain ⟨h1, h2, h3⟩ := hs
  exact ⟨fun q => by rw [h.port]; exact h1 q, by rw [h.port]; exact h2, fun q hq => by rw [h.port]; exact h3 q hq⟩
theorem Sees.incomingAt (h : Sees s t) (hs : s.incomingAt p n) : t.incomingAt p n := by
  obtain ⟨h1, h2⟩ := hs
  exact ⟨fun q => by rw [h.port]; exact h1 q, fun q => by rw [h.port]; exact h2 q⟩

/-- Nothing holds job `n` in a run slot, whatever else of the ports differs. -/
theorem runPort_none_of (h : ∀ q, (t.port q).run = (s.port q).run) (hs : s.runPort n = none) : t.runPort n = none :=
  (runPort_congr h).trans hs

theorem slotless_runPort (h : s.slotless n) : s.runPort n = none := runPort_none fun q => (h q).1
theorem suspendedAt_runPort {why : SuspReason} (h : s.suspendedAt p n why) : s.runPort n = none :=
  runPort_none fun q => (h.1 q).1
theorem incomingAt_runPort (h : s.incomingAt p n) : s.runPort n = none := runPort_none fun q => (h.1 q).1

theorem port_modJob (f : Job → Job) (q : PortNo) : (s.modJob n f).port q = s.port q := rfl
theorem runPort_modJob (f : Job → Job) (m : Nat) : (s.modJob n f).runPort m = s.runPort m := rfl
theorem suspPort_modJob (f : Job → Job) (m : Nat) : (s.modJob n f).suspPort m = s.suspPort m := rfl
theorem incPort_modJob (f : Job → Job) (m : Nat) : (s.modJob n f).incPort m = s.incPort m := rfl

/-- A change of a port that leaves its run slot alone. -/
theorem runPort_modPort {g : Port → Port} (h : ∀ x, (g x).run = x.run) (m : Nat) : (s.modPort p g).runPort m = s.runPort m :=
  runPort_congr fun q => by rw [port_modPort]; split <;> simp_all

/-- The run slot that alone held the job has emptied. -/
theorem runPort_emptied (h : s.runsAt p n) {u : State} (hu : ∀ q, (u.port q).run = if q = p then none else (s.port q).run) :
    u.runPort n = none :=
  runPort_none fun q => by
    rw [hu]
    split
    · nofun
    · next hq => exact fun hr => hq ((h q).mp hr)

theorem run_leaveRun (p q : PortNo) : ((leaveRun p s).port q).run = if q = p then none else (s.port q).run := by
  obtain ⟨l, c, h⟩ := port_evalMedia (s.modPort p fun x => { x with run := none, busy := false }) p q
  rw [leaveRun, h, port_modPort]
  by_cases hq : q = p
  · subst hq; simp
  · simp [hq]

/-- A job leaves its slot: the slot empties, and the port pulls (R66). -/
theorem leaveSlot_run (h : s.runPort j.num = some p) : leaveSlot j s = (leaveRun p s, [.pull p]) := by
  simp only [leaveSlot, h]

theorem leaveSlot_susp {why : SuspReason} (h : s.suspendedAt p j.num why) :
    leaveSlot j s = (s.modPort p (fun x => { x with susp := none }), [.pull p]) := by
  simp only [leaveSlot, suspendedAt_runPort h, suspPort_eq h.2.1 h.2.2]

theorem leaveSlot_inc (h : s.incomingAt p j.num) :
    leaveSlot j s = (s.modPort p (fun x => { x with inc := none }), [.pull p]) := by
  simp only [leaveSlot, incomingAt_runPort h, suspPort_none fun q => (h.1 q).2, incPort_eq h.2]

/-! ### The end of a job (R43, R48) -/

/-- What a finishing job's record keeps (R43, R48). -/
def Job.retired (clock : Nat) (j : Job) : Job :=
  { j with purpose := none, pinned := false, queueEntry := none, finished := some clock }

/-- Job `n` on the finished list, its images freed, its state still to change. -/
def State.retires (s : State) (n clock : Nat) : State :=
  let u := freeImages n (s.modJob n (Job.retired clock))
  { u with jt := { u.jt with finished := u.jt.finished ++ [n] } }

theorem finishes_eq : s.finishes n st r
    = ((s.retires n s.mlc.clock).modJob n (fun j => { j with state := st })).noteJob n r := rfl

theorem finishJob_retires (k : Job) :
    finishJob k st r s = (setJobState k.num st r ((detach k s).1.retires k.num s.clock), (detach k s).2) := rfl

theorem job?_retires (clock : Nat) : (s.retires n clock).job? n = (s.job? n).map (Job.retired clock) := by
  rw [job?_congr (s := s.modJob n (Job.retired clock)) (by simp [State.retires]), job?_modJob (by simp [Job.retired]),
    if_pos rfl]

theorem runPort_retires (clock m : Nat) : (s.retires n clock).runPort m = s.runPort m :=
  runPort_congr fun q => by
    obtain ⟨l, c, h⟩ : ∃ l c, (s.retires n clock).port q = { s.port q with lamps := l, conds := c } := by
      obtain ⟨l, h⟩ := port_evalSpoolLow (s := { s.modJob n (Job.retired clock) with smm := { s.smm with
        free := s.smm.free ++ s.smm.chainsOf n
        images := s.smm.images.filter (fun x => x.job != n) } }) q
      exact ⟨l, _, h⟩
    rw [h]

/-- A job that stands in no run slot any more finishes; what it leaves behind is taken out first. -/
theorem finishJob_eq {k : Job} {u : State} {ts : List Task} (hd : detach k s = (u, ts)) (hr : u.runPort k.num = none)
    (hj : u.job? k.num = some j) (hst : j.state ≠ st) : finishJob k st r s = (u.finishes k.num st r, ts) := by
  have hclock : s.clock = u.mlc.clock := by
    have h : (detach k s).1.clock = s.clock := by simp [State.clock]
    rw [← h, hd]; rfl
  have hjob : (u.retires k.num u.mlc.clock).job? k.num = some (j.retired u.mlc.clock) := by rw [job?_retires, hj]; rfl
  rw [finishJob_retires, hd, hclock, setJobState_slotless hjob hst ((runPort_retires ..).trans hr), finishes_eq]

/-- What a finishing job's queue entry time was does not show. -/
theorem finishes_modJob {f : Job → Job} (hf : ∀ j : Job, f j = { j with queueEntry := none }) :
    (s.modJob n f).finishes n st r = s.finishes n st r := by
  have h (c : Nat) : (s.modJob n f).modJob n (Job.retired c) = s.modJob n (Job.retired c) := by
    rw [modJob_modJob (by simp [hf])]
    exact congrArg _ (funext fun j => by rw [hf]; rfl)
  simp only [finishes_eq, State.retires, h]
  rfl

theorem runPort_unqueues (k : Job) : (s.unqueues k).runPort n = s.runPort n :=
  runPort_congr (port_unqueues_run s k)

theorem job?_unqueues (k : Job) : (s.unqueues k).job? n = s.job? n := by
  unfold State.unqueues
  split <;> simp

/-- A queued job leaves its queue as it finishes. -/
theorem finishJob_queued (hj : s.job? n = some j) (hq : j.state = .queued) (hst : st ≠ .queued) {k : Job}
    (hk : k.num = n) (hks : k.state = .queued) (hr : s.runPort n = none) :
    finishJob k st r s = ((s.unqueues k).finishes n st r, []) := by
  subst hk
  have hd : detach k s = (leaveQueue k s, []) := by simp only [detach, hks]
  have hjob : (leaveQueue k s).job? k.num = some { j with queueEntry := none } := by
    rw [leaveQueue_eq, job?_unqueues]
    exact job?_modJob_self (fun _ => rfl) hj
  rw [finishJob_eq hd (by rw [leaveQueue_eq, runPort_unqueues, runPort_modJob, hr]) hjob (by rw [hq]; exact hst.symm),
    leaveQueue_eq, ← unqueues_modJob, finishes_modJob (fun _ => rfl)]

/-- A suspended or incoming job leaves its slot as it finishes, and the port pulls. -/
theorem finishJob_suspended (hj : s.job? n = some j) (hst : j.state ≠ st) {k : Job} (hk : k.num = n)
    (hks : k.state = .suspended) {g : Port → Port} (hg : ∀ x, (g x).run = x.run)
    (hslot : leaveSlot k s = (s.modPort p g, [.pull p])) (hr : s.runPort n = none) :
    finishJob k st r s = ((s.modPort p g).finishes n st r, [.pull p]) := by
  subst hk
  have hd : detach k s = (s.modPort p g, [.pull p]) := by simp only [detach, hks, hslot]
  exact finishJob_eq hd ((runPort_modPort hg _).trans hr) ((job?_modPort p g).trans hj) hst

/-- A run job leaves the run slot as it finishes, and the port pulls. -/
theorem finishJob_run (hj : s.job? n = some j) (hst : j.state ≠ st) {k : Job} (hk : k.num = n)
    (hks : k.state ∈ [JobState.running, .starved, .draining, .cancelling]) (h : s.runsAt p n) :
    finishJob k st r s = ((leaveRun p s).finishes n st r, [.pull p]) := by
  subst hk
  have hd : detach k s = (leaveRun p s, [.pull p]) := by
    simp only [List.mem_cons, List.not_mem_nil, or_false] at hks
    rcases hks with hks | hks | hks | hks <;> simp only [detach, hks, leaveSlot_run (runPort_eq h)]
  exact finishJob_eq hd (runPort_emptied h (run_leaveRun p)) ((job?_leaveRun p).trans hj) hst

/-- A job in no slot and no queue finishes where it stands. -/
theorem finishJob_idle (hj : s.job? n = some j) (hst : j.state ≠ st) {k : Job} (hk : k.num = n)
    (hks : k.state = .spooling ∨ k.state = .held) (hr : s.runPort n = none) :
    finishJob k st r s = (s.finishes n st r, []) := by
  subst hk
  have hd : detach k s = (s, []) := by rcases hks with hks | hks <;> simp only [detach, hks]
  exact finishJob_eq hd hr hj hst

/-! ### A change of state with its JOB_EVENT -/

/-- A job in no run slot changes state. -/
theorem setJobState_away {f : Job → Job} (hf : ∀ j, (f j).num = j.num) (hj : s.job? n = some j) (hst : (f j).state ≠ st)
    (hr : s.runPort n = none) :
    setJobState n st r (s.modJob n f) = (s.modJob n (fun j => { f j with state := st })).noteJob n r := by
  have hjob : (s.modJob n f).job? n = some (f j) := job?_modJob_self hf hj
  rw [setJobState_slotless hjob hst hr, modJob_modJob hf]

/-- The run job of a port stops RUNNING. -/
theorem setJobState_run {f : Job → Job} (hf : ∀ j, (f j).num = j.num) (hj : s.job? n = some j) (hst : (f j).state ≠ st)
    (hr : s.runPort n = some p) (hs : st ≠ .running) :
    setJobState n st r (s.modJob n f) = ((s.modPort p (fun x => { x with busy := false })).modJob n
      (fun j => { f j with state := st })).noteJob n r := by
  have hjob : (s.modJob n f).job? n = some (f j) := job?_modJob_self hf hj
  rw [setJobState_at hjob hst hr hs, modJob_modJob hf, modPort_noteJob, modJob_modPort]

theorem refused_noJob {v : JobVerb} {w : Who} {job : Half} (h : s.job? job.toNat = none) : JobRefused v w job s .noJob :=
  jobRefused_of v w job s _ fun t ht => by
    have := withJob_of_none ((ht.job job.toNat).trans h)
    cases v <;> exact this _

/-! ### JOB_SUSPEND and the panel SUSPEND (R77, R78) -/

section Suspend

variable {w : Who}

theorem doSuspend_wrongState (hj : s.job? n = some j) (h : j.state ≠ .running ∧ j.state ≠ .starved) :
    doSuspend w n s = .error .wrongState := (withJob_of_some hj _).trans (if_pos h)

/-- The depth rule: the suspended slot of the port is in use (R77). -/
theorem doSuspend_depth (hj : s.job? n = some j) (h : j.state = .running ∨ j.state = .starved)
    (hr : s.runPort n = some p) (hs : (s.port p).susp ≠ none) : doSuspend w n s = .error .depth := by
  rw [doSuspend, withJob_of_some hj, if_neg (by tauto), hr]
  exact if_pos (Option.isSome_iff_ne_none.mpr hs)

/-- A run job drains for SUSPEND_HOST. -/
theorem doSuspend_drains (hj : s.job? n = some j) (h : j.state = .running ∨ j.state = .starved)
    (hr : s.runPort n = some p) (hs : (s.port p).susp = none) : doSuspend w n s
      = .ok { st := ((s.modPort p (fun x => { x with busy := false })).modJob n
                (fun j => { j with purpose := some .suspendHost, state := .draining })).noteJob n w.reason
              tasks := [.runEnd p .start, .settle] } := by
  have hne : j.state ≠ .draining := by rcases h with h | h <;> simp [h]
  have hset := setJobState_run (r := w.reason) (st := .draining) (f := fun j : Job => { j with purpose := some .suspendHost })
    (fun _ => rfl) hj hne hr (by simp)
  rw [doSuspend, withJob_of_some hj, if_neg (by tauto), hr]
  simp only [hs, beginDrain, hset]
  rfl

end Suspend

/-- Settles O23. -/
theorem suspendActs : Obligations.SuspendActs := by
  intro w job s n
  refine ⟨refused_noJob, fun j hj => ⟨fun h1 h2 => ?wrongState, fun p hst hp => ⟨fun hs => ?depth, fun hs => ?drains⟩⟩⟩
  case wrongState =>
    exact jobRefused_of _ w job s _ fun t ht => doSuspend_wrongState ((ht.job n).trans hj) ⟨h1, h2⟩
  case depth =>
    exact jobRefused_of _ w job s _ fun t ht => doSuspend_depth ((ht.job n).trans hj) hst (runPort_eq (ht.runsAt hp))
      (by rw [ht.port]; exact hs)
  case drains =>
    exact jobThen_of fun t ht => doSuspend_drains ((ht.job n).trans hj) hst (runPort_eq (ht.runsAt hp))
      (by rw [ht.port]; exact hs)

/-! ### JOB_RESUME and the panel RESUME (R80, R81) -/

section Resume

variable {w : Who} {why : SuspReason}

theorem doResume_wrongState (hj : s.job? n = some j) (h : s.suspPort n = none) :
    doResume w n s = .error .wrongState := by
  rw [doResume, withJob_of_some hj, h]

theorem doResume_suspended (hj : s.job? n = some j) (h : s.suspendedAt p n why) : doResume w n s
    = if why = .host then accept (resumeAt w p n s) [.pull p, .settle] else .error .already := by
  rw [doResume, withJob_of_some hj, suspPort_eq h.2.1 h.2.2]
  simp only [h.2.1]

/-- A job that waits behind another for the run slot only gains the reason RETURN. -/
theorem resumeAt_waits (h : (s.port p).run ≠ none ∨ (s.port p).inc ≠ none) :
    resumeAt w p n s = s.modPort p (fun x => { x with susp := some { job := n, reason := .ret } }) := by
  refine if_neg ?_
  rw [Bool.and_eq_true, Option.isNone_iff_eq_none, Option.isNone_iff_eq_none]
  tauto

/-- With the run slot empty the job returns at once, which its JOB_EVENT reports (log 25). -/
theorem resumeAt_returns (hr : (s.port p).run = none) (hi : (s.port p).inc = none) : resumeAt w p n s
    = (s.modPort p (fun x => { x with susp := some { job := n, reason := .ret } })).noteJob n w.resumeReason := by
  refine if_pos ?_
  rw [hr, hi]
  rfl

end Resume

/-- Settles O24. -/
theorem resumeActs : Obligations.ResumeActs := by
  intro w job s n
  refine ⟨refused_noJob, fun j hj => ⟨fun h => ?wrongState, fun p why hp => ⟨fun hw => ?already, fun hw hbusy => ?waits,
    fun hw hrun hinc => ?returns⟩⟩⟩
  all_goals have hjob {t : State} (ht : Sees s t) : t.job? n = some j := (ht.job n).trans hj
  case wrongState =>
    exact jobRefused_of _ w job s _ fun t ht => doResume_wrongState (hjob ht)
      (suspPort_none fun q => by rw [ht.port]; exact h q)
  case already =>
    exact jobRefused_of _ w job s _ fun t ht => (doResume_suspended (hjob ht) (ht.suspendedAt hp)).trans (if_neg hw)
  case waits =>
    refine jobThen_of fun t ht => (doResume_suspended (hjob ht) (ht.suspendedAt hp)).trans ?_
    rw [if_pos hw, resumeAt_waits (by rw [ht.port]; exact hbusy)]
    rfl
  case returns =>
    refine jobThen_of fun t ht => (doResume_suspended (hjob ht) (ht.suspendedAt hp)).trans ?_
    rw [if_pos hw, resumeAt_returns (by rw [ht.port]; exact hrun) (by rw [ht.port]; exact hinc)]
    cases w <;> rfl

/-! ### JOB_CANCEL and the panel CANCEL (R48, R49) -/

section Cancel

variable {w : Who}

/-- A cancel of a job that has not ended. -/
theorem doCancel_of {u : State} {ts : List Task} (hj : s.job? n = some j) (he : j.state.ending = false)
    (h : cancelEffect w j s = (u, ts)) : doCancel w n s = .ok { st := u, tasks := ts ++ [.settle] } := by
  rw [doCancel, withJob_of_some hj, he, h]
  rfl

/-- A job outside the run slots is CANCELLED at once. -/
theorem cancelEffect_away (h : j.state = .spooling ∨ j.state = .queued ∨ j.state = .held ∨ j.state = .suspended) :
    cancelEffect w j s = finishJob j .cancelled w.reason s := by
  rcases h with h | h | h | h <;> simp only [cancelEffect, h]

/-- A run job is CANCELLING. -/
theorem cancelEffect_run (hj : s.job? n = some j) (h : j.state ∈ [JobState.running, .starved, .draining])
    (hr : s.runPort n = some p) : cancelEffect w j s
      = (((s.modPort p (fun x => { x with busy := false })).modJob n
          (fun j => { j with purpose := none, state := .cancelling })).noteJob n w.reason, [.runEnd p .start]) := by
  obtain rfl := job?_num hj
  have hne : j.state ≠ .cancelling := by rintro h'; simp [h'] at h
  have hset := setJobState_run (r := w.reason) (st := .cancelling) (f := fun j => { j with purpose := none })
    (fun _ => rfl) hj hne hr (by simp)
  have hrun : (((s.modPort p (fun x => { x with busy := false })).modJob j.num
      (fun j => { j with purpose := none, state := .cancelling })).noteJob j.num w.reason).runPort j.num = some p :=
    (runPort_congr fun q => by
      rw [show ∀ u : State, (u.noteJob j.num w.reason).port q = u.port q from fun u => by simp [State.port], port_modJob,
        port_modPort]
      split <;> simp_all).trans hr
  simp only [List.mem_cons, List.not_mem_nil, or_false] at h
  rcases h with h | h | h <;> simp only [cancelEffect, h, hset, hrun]

end Cancel

/-- Settles O22. -/
theorem cancelActs : Obligations.CancelActs := by
  intro w job s n
  refine ⟨refused_noJob, fun j hj => ⟨fun he => ?already, fun hst hs => ?idle, fun hst hs => ?queued,
    fun p why hst hs => ?suspended, fun p hst hs => ?incoming, fun p hst hs => ?run⟩⟩
  case already =>
    refine jobRefused_of _ w job s _ fun t ht => ?_
    exact (withJob_of_some ((ht.job n).trans hj) _).trans (if_pos ((ending_iff _).mpr he))
  all_goals
    have hnum : j.num = n := job?_num hj
    have hjob {t : State} (ht : Sees s t) : t.job? n = some j := (ht.job n).trans hj
  case idle =>
    refine jobAction_settles fun t ht => doCancel_of (ts := []) (hjob ht) (by rcases hst with h | h <;> rw [h] <;> rfl) ?_
    rw [cancelEffect_away (by tauto)]
    exact finishJob_idle (hjob ht) (by rcases hst with h | h <;> simp [h]) hnum hst (slotless_runPort (ht.slotless hs))
  case queued =>
    refine jobAction_settles fun t ht => doCancel_of (ts := []) (hjob ht) (by rw [hst]; rfl) ?_
    rw [cancelEffect_away (by tauto)]
    exact finishJob_queued (hjob ht) hst (by simp) hnum hst (slotless_runPort (ht.slotless hs))
  case suspended =>
    refine jobThen_of fun t ht => doCancel_of (ts := [.pull p]) (hjob ht) (by rw [hst]; rfl) ?_
    have hs' : t.suspendedAt p j.num why := hnum ▸ ht.suspendedAt hs
    rw [cancelEffect_away (by tauto)]
    exact finishJob_suspended (hjob ht) (by simp [hst]) hnum hst (fun _ => rfl) (leaveSlot_susp hs')
      (suspendedAt_runPort (ht.suspendedAt hs))
  case incoming =>
    refine jobThen_of fun t ht => doCancel_of (ts := [.pull p]) (hjob ht) (by rw [hst]; rfl) ?_
    have hs' : t.incomingAt p j.num := hnum ▸ ht.incomingAt hs
    rw [cancelEffect_away (by tauto)]
    exact finishJob_suspended (hjob ht) (by simp [hst]) hnum hst (fun _ => rfl) (leaveSlot_inc hs')
      (incomingAt_runPort (ht.incomingAt hs))
  case run =>
    refine jobThen_of fun t ht => doCancel_of (ts := [.runEnd p .start]) (hjob ht) ?_
      (cancelEffect_run (hjob ht) hst (runPort_eq (ht.runsAt hs)))
    simp only [List.mem_cons, List.not_mem_nil, or_false] at hst
    rcases hst with h | h | h <;> rw [h] <;> rfl

/-! ### JOB_HOLD and the panel HOLD (R44, R82, R84) -/

section Hold

variable {w : Who}

theorem doHold_of {u : State} {ts : List Task} (hj : s.job? n = some j) (he : j.state.ending = false)
    (hh : j.holds.has w = false)
    (h : holdEffect w j (s.modJob n (fun j => { j with holds := j.holds.add w })) = (u, ts)) :
    doHold w n s = .ok { st := u, tasks := ts ++ [.settle] } := by
  rw [doHold, withJob_of_some hj, he, hh, h]
  rfl

/-- A queued job leaves its queue and is HELD. -/
theorem holdEffect_queued (hj : s.job? n = some j) (h : j.state = .queued) (hr : s.runPort n = none) :
    holdEffect w j (s.modJob n (fun j => { j with holds := j.holds.add w }))
      = ((((s.unqueues j).modJob n (fun j => { j with holds := j.holds.add w, state := .held })).noteJob n
          w.reason).modJob n (fun j => { j with queueEntry := none }), []) := by
  obtain rfl := job?_num hj
  have hset := setJobState_away (r := w.reason) (st := .held)
    (f := fun j : Job => { j with holds := j.holds.add w, queueEntry := none }) (fun _ => rfl)
    ((job?_unqueues j).trans hj) (by simp [h]) ((runPort_unqueues j).trans hr)
  have hleave : leaveQueue j (s.modJob j.num (fun j => { j with holds := j.holds.add w }))
      = (s.unqueues j).modJob j.num (fun j => { j with holds := j.holds.add w, queueEntry := none }) := by
    rw [leaveQueue_eq, unqueues_modJob, modJob_modJob (by simp)]
  simp only [holdEffect, h]
  rw [hleave, hset, modJob_noteJob, modJob_modJob (by simp)]

/-- A run job drains for HOLD. -/
theorem holdEffect_run (hj : s.job? n = some j) (h : j.state = .running ∨ j.state = .starved)
    (hr : s.runPort n = some p) :
    holdEffect w j (s.modJob n (fun j => { j with holds := j.holds.add w }))
      = (((s.modPort p (fun x => { x with busy := false })).modJob n (fun j => { j with
          holds := j.holds.add w, purpose := some .hold, state := .draining })).noteJob n w.reason,
          [.runEnd p .start]) := by
  obtain rfl := job?_num hj
  have hne : j.state ≠ .draining := by rcases h with h | h <;> simp [h]
  have hset := setJobState_run (r := w.reason) (st := .draining)
    (f := fun j : Job => { j with holds := j.holds.add w, purpose := some .hold }) (fun _ => rfl) hj hne hr (by simp)
  have hr' : (s.modJob j.num (fun j => { j with holds := j.holds.add w })).runPort j.num = some p := hr
  rcases h with h | h <;>
  · simp only [holdEffect, h, hr', beginDrain]
    rw [modJob_modJob (by simp), hset]

/-- A job that stands in no slot and no queue, or drains already, only holds the reason. -/
theorem holdEffect_stays (h : j.state = .spooling ∨ j.state = .held ∨ j.state = .draining) : holdEffect w j s = (s, []) := by
  rcases h with h | h | h <;> simp only [holdEffect, h]

/-- A suspended or incoming job leaves its slot and is HELD. -/
theorem holdEffect_slot (hj : s.job? n = some j) (h : j.state = .suspended) (hr : s.runPort n = none) {g : Port → Port}
    (hg : ∀ x, (g x).run = x.run) (hslot : ∀ f, leaveSlot j (s.modJob n f) = ((s.modJob n f).modPort p g, [.pull p])) :
    holdEffect w j (s.modJob n (fun j => { j with holds := j.holds.add w }))
      = (((s.modPort p g).modJob n (fun j' => { j' with
          holds := j'.holds.add w, pinned := j'.pinned || (s.suspPort n).isSome, state := .held })).noteJob n w.reason,
          [.pull p]) := by
  obtain rfl := job?_num hj
  have hset := setJobState_away (r := w.reason) (st := .held) (s := s.modPort p g)
    (f := fun j' : Job => { j' with holds := j'.holds.add w, pinned := j'.pinned || (s.suspPort j.num).isSome })
    (fun _ => rfl) ((job?_modPort p g).trans hj) (by simp [h]) ((runPort_modPort hg _).trans hr)
  simp only [holdEffect, h, hslot, suspPort_modJob]
  rw [← hset, ← modJob_modPort, modJob_modJob (by simp)]

/-- A suspended job that is held is pinned to its port (R84). -/
theorem holdEffect_suspended {why : SuspReason} (hj : s.job? n = some j) (h : j.state = .suspended)
    (hs : s.suspendedAt p n why) : holdEffect w j (s.modJob n (fun j => { j with holds := j.holds.add w }))
      = ((((s.modPort p (fun x => { x with susp := none })).modJob n (fun j => { j with
          holds := j.holds.add w, state := .held })).noteJob n w.reason).modJob n (fun j => { j with pinned := true }),
          [.pull p]) := by
  obtain rfl := job?_num hj
  rw [holdEffect_slot (g := fun x => { x with susp := none }) hj h (suspendedAt_runPort hs) (fun _ => rfl)
    (fun f => leaveSlot_susp (s := s.modJob j.num f) hs), suspPort_eq hs.2.1 hs.2.2, modJob_noteJob,
    modJob_modJob (by simp)]
  simp

theorem holdEffect_incoming (hj : s.job? n = some j) (h : j.state = .suspended) (hs : s.incomingAt p n) :
    holdEffect w j (s.modJob n (fun j => { j with holds := j.holds.add w }))
      = (((s.modPort p (fun x => { x with inc := none })).modJob n (fun j => { j with
          holds := j.holds.add w, state := .held })).noteJob n w.reason, [.pull p]) := by
  obtain rfl := job?_num hj
  rw [holdEffect_slot (g := fun x => { x with inc := none }) hj h (incomingAt_runPort hs) (fun _ => rfl)
    (fun f => leaveSlot_inc (s := s.modJob j.num f) hs), suspPort_none fun q => (hs.1 q).2]
  simp only [Option.isSome_none, Bool.or_false]

end Hold

/-- Settles O20. -/
theorem holdActs : Obligations.HoldActs := by
  intro w job s n
  refine ⟨refused_noJob, ?_⟩
  intro j hj held
  refine ⟨fun he => ?wrongState, fun he hh => ?already, fun hh => ⟨fun hst => ?stays,
    fun hst hs => ?queued, fun p hst hs => ?run, fun p why hst hs => ?suspended, fun p hst hs => ?incoming⟩⟩
  all_goals have hjob {t : State} (ht : Sees s t) : t.job? n = some j := (ht.job n).trans hj
  case wrongState =>
    refine jobRefused_of _ w job s _ fun t ht => ?_
    exact (withJob_of_some (hjob ht) _).trans (if_pos ((ending_iff _).mpr he))
  case already =>
    refine jobRefused_of _ w job s _ fun t ht => (withJob_of_some (hjob ht) _).trans ?_
    rw [if_neg fun h => he ((ending_iff _).mp h), if_pos hh]
  case stays =>
    simp only [List.mem_cons, List.not_mem_nil, or_false] at hst
    exact jobAction_settles fun t ht => doHold_of (ts := []) (hjob ht) (by rcases hst with h | h | h <;> rw [h] <;> rfl) hh
      (holdEffect_stays hst)
  case queued =>
    exact jobAction_settles fun t ht => doHold_of (ts := []) (hjob ht) (by rw [hst]; rfl) hh
      (holdEffect_queued (hjob ht) hst (slotless_runPort (ht.slotless hs)))
  case run =>
    exact jobThen_of fun t ht => doHold_of (ts := [.runEnd p .start]) (hjob ht)
      (by rcases hst with h | h <;> rw [h] <;> rfl) hh (holdEffect_run (hjob ht) hst (runPort_eq (ht.runsAt hs)))
  case suspended =>
    exact jobThen_of fun t ht => doHold_of (ts := [.pull p]) (hjob ht) (by rw [hst]; rfl) hh
      (holdEffect_suspended (hjob ht) hst (ht.suspendedAt hs))
  case incoming =>
    exact jobThen_of fun t ht => doHold_of (ts := [.pull p]) (hjob ht) (by rw [hst]; rfl) hh
      (holdEffect_incoming (hjob ht) hst (ht.incomingAt hs))

/-! ### JOB_RELEASE and the panel RELEASE (R45) -/

/-- A job joins the pinned queue of the port it is bound to, which pulls (R62). -/
theorem joinQueue_pinned {f : Job → Job} {b : PortNo} (hf : ∀ j, (f j).num = j.num) (hj : s.job? n = some j)
    (hst : (f j).state ≠ .queued) (hpin : (f j).pinned = true) (hb : (f j).bound = some b) (hr : s.runPort n = none) :
    joinQueue n r (s.modJob n f) = (((s.modPort b (fun x => { x with pinnedQ := x.pinnedQ ++ [n] })).modJob n
      (fun j => { f j with queueEntry := some s.clock, state := .queued })).noteJob n r, [.pull b]) := by
  have hentry : (s.modJob n f).modJob n (fun j => { j with queueEntry := some (s.modJob n f).clock })
      = s.modJob n (fun j => { f j with queueEntry := some s.clock }) := modJob_modJob hf
  have hjob : (s.modJob n (fun j => { f j with queueEntry := some s.clock })).job? n
      = some { f j with queueEntry := some s.clock } := job?_modJob_self hf hj
  have hat : Job.pinnedAt { f j with queueEntry := some s.clock } = some b := by simp [Job.pinnedAt, hpin, hb]
  rw [joinQueue]
  simp only [hentry, hjob, hat]
  rw [← modJob_modPort, setJobState_away (f := fun j => { f j with queueEntry := some s.clock }) hf
    ((job?_modPort b _).trans hj) hst ((runPort_modPort (by simp) _).trans hr)]

/-- A job joins the queue of its destination, which offers it (R60, R64). -/
theorem joinQueue_dest {f : Job → Job} (hf : ∀ j, (f j).num = j.num) (hj : s.job? n = some j)
    (hst : (f j).state ≠ .queued) (hpin : (f j).pinned = false ∨ (f j).bound = none) (hr : s.runPort n = none) :
    let u := s.modJob n (fun j => { f j with queueEntry := some s.clock })
    joinQueue n r (s.modJob n f) = (((u.setQueue (f j).dest (placeInQueue u { f j with queueEntry := some s.clock }
      (u.queue (f j).dest))).modJob n (fun j => { j with state := .queued })).noteJob n r, [.offer n]) := by
  intro u
  have hentry : (s.modJob n f).modJob n (fun j => { j with queueEntry := some (s.modJob n f).clock }) = u :=
    modJob_modJob hf
  have hjob : u.job? n = some { f j with queueEntry := some s.clock } := job?_modJob_self hf hj
  have hat : Job.pinnedAt { f j with queueEntry := some s.clock } = none := by
    rcases hpin with h | h <;> simp [Job.pinnedAt, h]
  rw [joinQueue]
  simp only [hentry, hjob, hat]
  rw [setJobState_slotless ((job?_setQueue _ _).trans hjob) hst]
  exact (runPort_congr fun q => rfl).trans hr

section Release

variable {w : Who}

/-- A release that leaves the job where it is. -/
theorem doRelease_stays (hj : s.job? n = some j) (he : j.state.ending = false) (hh : j.holds.releasable w = true)
    (hst : j.state ≠ .held ∨ (j.holds.release w).isEmpty = false) :
    doRelease w n s = .ok { st := s.modJob n (fun j => { j with holds := j.holds.release w }) } := by
  have hno : ¬ (j.state = .held ∧ (j.holds.release w).isEmpty = true) := by
    rintro ⟨h1, h2⟩; rcases hst with h | h <;> simp_all
  rw [doRelease, withJob_of_some hj, he, hh]
  simp only [hno]
  rfl

/-- A release that leaves a HELD job with no reason. -/
theorem doRelease_queues {u : State} {ts : List Task} (hj : s.job? n = some j) (hh : j.holds.releasable w = true)
    (hst : j.state = .held) (hempty : (j.holds.release w).isEmpty = true)
    (h : joinQueue n w.reason (s.modJob n (fun j => { j with holds := j.holds.release w })) = (u, ts)) :
    doRelease w n s = .ok { st := u, tasks := ts ++ [.settle] } := by
  rw [doRelease, withJob_of_some hj, hh, hst]
  simp only [hempty, h]
  rfl

end Release

/-- Settles O21. -/
theorem releaseActs : Obligations.ReleaseActs := by
  intro w job s n
  refine ⟨refused_noJob, ?_⟩
  intro j hj freed
  refine ⟨fun he => ?wrongState, fun he hh => ?already, fun he hh => ⟨fun hst => ?stays,
    fun hst hempty hs => ⟨fun b hpin hb => ?pinned, fun hpin => ?queued⟩⟩⟩
  all_goals have hjob {t : State} (ht : Sees s t) : t.job? n = some j := (ht.job n).trans hj
  case wrongState =>
    refine jobRefused_of _ w job s _ fun t ht => ?_
    exact (withJob_of_some (hjob ht) _).trans (if_pos ((ending_iff _).mpr he))
  case already =>
    refine jobRefused_of _ w job s _ fun t ht => (withJob_of_some (hjob ht) _).trans ?_
    rw [if_neg fun h => he ((ending_iff _).mp h), hh]
    rfl
  case stays =>
    refine jobAction_alone fun t ht => doRelease_stays (hjob ht) ?_ hh hst
    exact Bool.eq_false_iff.mpr fun h => he ((ending_iff _).mp h)
  all_goals have hr {t : State} (ht : Sees s t) : t.runPort n = none := slotless_runPort (ht.slotless hs)
  case pinned =>
    refine jobThen_of fun t ht => doRelease_queues (ts := [.pull b]) (hjob ht) hh hst hempty ?_
    rw [joinQueue_pinned (f := fun j => { j with holds := j.holds.release w }) (fun _ => rfl) (hjob ht)
      (by simp [hst]) hpin hb (hr ht), ht.clock]
    rfl
  case queued =>
    refine jobThen_of fun t ht => doRelease_queues (ts := [.offer n]) (hjob ht) hh hst hempty ?_
    rw [joinQueue_dest (f := fun j => { j with holds := j.holds.release w }) (fun _ => rfl) (hjob ht)
      (by simp [hst]) hpin (hr ht), ht.clock]
    rfl

end Sys2Proof.Machine
end

section
/-! PROOF. JOB_OPEN, JOB_CLOSE, JOB_MOVE, and the place of a job in its queue (R34 to R37, R50, R51, R61). -/

namespace Sys2Proof.Machine

variable {s t : State} {n : Nat} {j : Job} {p : PortNo} {st : JobState} {r : JobReason}

/-! ### Fields of a request -/

/-- A field in range or not, the answer is BAD_FIELD. -/
theorem field_badField {α : Type} {x : Option α} {k : α → Answer} (h : ∀ a, x = some a → k a = .error .badField) :
    field x k = .error .badField := by
  cases x with
  | none => rfl
  | some a => exact h a rfl

theorem field_some {α : Type} {x : Option α} {a : α} (h : x = some a) (k : α → Answer) : field x k = k a := by
  subst h; rfl

theorem field_none {α : Type} {x : Option α} (h : x = none) (k : α → Answer) : field x k = .error .badField := by
  subst h; rfl

theorem accountNo?_lt {a : Fin 128} (h : accountNo? n = some a) : n < 128 := by
  unfold accountNo? at h; split at h
  · assumption
  · cases h
theorem destNo?_lt {d : Fin 32} (h : destNo? n = some d) : n < 32 := by
  unfold destNo? at h; split at h
  · assumption
  · cases h
theorem class?_lt {c : Fin 8} (h : class? n = some c) : n < 8 := by
  unfold class? at h; split at h
  · assumption
  · cases h
theorem flag?_le {b : Bool} (h : flag? n = some b) : n ≤ 1 := by
  unfold flag? at h
  split at h
  · omega
  · omega
  · cases h
theorem colour?_le {c : Colour} (h : colour? n = some c) : n ≤ 1 := by
  unfold colour? at h
  split at h
  · omega
  · omega
  · cases h

theorem accountNo?_val (a : Fin 128) : accountNo? a.val = some a := by simp [accountNo?]
theorem class?_val (c : Fin 8) : class? c.val = some c := by simp [class?]
theorem colour?_code (c : Colour) : colour? c.code = some c := by cases c <;> rfl

theorem flag?_byte {b : Byte} (h : b.toNat ≤ 1) : flag? b.toNat = some (b == 1) := by
  have hb : b = 0 ∨ b = 1 := by bv_omega
  rcases hb with rfl | rfl <;> rfl

/-! ### JOB_OPEN (R34, R35, R51) -/

section Open

variable {account dest cls priority copies options colour media size : Nat}

theorem doJobOpen_badField (h : 127 < account ∨ 31 < dest ∨ 1 < cls ∨ copies = 0 ∨ 999 < copies ∨ 7 < options ∨ 1 < colour
    ∨ 7 < media ∨ 7 < size) :
    doJobOpen account dest cls priority copies options colour media size s = .error .badField := by
  refine field_badField fun a ha => field_badField fun d hd => field_badField fun b hb => field_badField fun c hc =>
    field_badField fun m hm => field_badField fun z hz => if_pos ?_
  have := accountNo?_lt ha
  have := destNo?_lt hd
  have := flag?_le hb
  have := colour?_le hc
  have := class?_lt hm
  have := class?_lt hz
  omega

/-- The checks after the fields, in their order (R34). -/
theorem doJobOpen_fields {a : Fin 128} {d : Fin 32} {rush : Bool} {c : Colour} {m z : Fin 8} (ha : accountNo? account = some a)
    (hd : destNo? dest = some d) (hb : flag? cls = some rush) (hc : colour? colour = some c) (hm : class? media = some m)
    (hz : class? size = some z) (hgo : ¬ (copies = 0 ∨ 999 < copies ∨ 8 ≤ options)) :
    doJobOpen account dest cls priority copies options colour media size s
      = if !(s.account a).isOpen then .error .noAccount
        else if !(s.dest d).enabled then .error .destDisabled
        else match takeRecord s with
          | none => .error .jobTableFull
          | some (t, r) =>
            .ok { contents := be16 t.nextJobNumber
                  st := addJob (newJob r t.nextJobNumber a d rush priority copies options c m z t.clock) t } := by
  rw [doJobOpen, field_some ha, field_some hd, field_some hb, field_some hc, field_some hm, field_some hz, if_neg hgo]
    <;> rfl

end Open

/-- The unused record with the lowest number. -/
theorem takeRecord_unused {k : Nat} (hk : k < 256) (hfree : ∀ j ∈ s.jt.jobs, j.record ≠ k)
    (hlow : ∀ i < k, ∃ j ∈ s.jt.jobs, j.record = i) : takeRecord s = some (s, k) := by
  have h : s.jt.freeRecord = some k := lowestUnused_eq_some.mpr
    ⟨Nat.zero_le _, by omega, by simpa using hfree, fun i _ hi => by simpa using hlow i hi⟩
  simp only [takeRecord, h]

theorem freeRecord_eq_none (hfull : ∀ k < 256, ∃ j ∈ s.jt.jobs, j.record = k) : s.jt.freeRecord = none :=
  lowestUnused_eq_none.mpr fun i _ hi => by simpa using hfull i (by omega)

theorem takeRecord_full (hfull : ∀ k < 256, ∃ j ∈ s.jt.jobs, j.record = k) (hfin : s.jt.finished = []) :
    takeRecord s = none := by
  simp only [takeRecord, freeRecord_eq_none hfull, hfin]

/-- With no record unused, that of the job at the head of the finished list is reclaimed (R51). -/
theorem takeRecord_reclaims (hN : JobNumbers s) (hfull : ∀ k < 256, ∃ j ∈ s.jt.jobs, j.record = k) {rest : List Nat}
    (hfin : s.jt.finished = n :: rest) {old : Job} (hold : s.job? n = some old) :
    takeRecord s = some ({ s with jt := { s.jt with
      jobs := s.jt.jobs.filter (fun j => j.num != n), finished := rest } }, old.record) := by
  obtain ⟨hnums, hrecords, hrange, -⟩ := hN
  have hmem := job?_mem hold
  have hnum := job?_num hold
  have hfreed : freeRecord n s = { s with jt := { s.jt with
      jobs := s.jt.jobs.filter (fun j => j.num != n), finished := rest } } := by
    simp [Machine.freeRecord, hfin]
  have hlowest : (freeRecord n s).jt.freeRecord = some old.record := by
    refine lowestUnused_eq_some.mpr ⟨Nat.zero_le _, by have := (hrange old hmem).2.2; omega, ?_, fun i _ hi => ?_⟩
    · rw [hfreed]
      simp only [List.any_eq_false, List.mem_filter, bne_iff_ne, beq_iff_eq, and_imp]
      intro x hx hne hrec
      exact hne (List.inj_on_of_nodup_map hrecords hx hmem hrec ▸ hnum)
    · obtain ⟨x, hx, hxi⟩ := hfull i (by have := (hrange old hmem).2.2; omega)
      rw [hfreed]
      simp only [List.any_eq_true, List.mem_filter, bne_iff_ne, beq_iff_eq]
      refine ⟨x, ⟨hx, fun hxn => ?_⟩, hxi⟩
      have := List.inj_on_of_nodup_map hnums hx hmem (hxn.trans hnum.symm)
      subst this
      omega
  simp only [takeRecord, freeRecord_eq_none hfull, hfin, hlowest, ← hfreed, Option.map_some]

/-- Settles O18. -/
theorem jobOpenCreates : Obligations.JobOpenCreates := by
  intro tag account dest cls priority copies options colour media size s htag ht i payload f refused bad
  have ha : Asks i s f (doJobOpen account.toNat dest.toNat cls.toNat priority.toNat copies.toNat options.toNat
      colour.toNat media.toNat size.toNat s.taking) := asks (h := fun _ => doJobOpen account.toNat dest.toNat cls.toNat
    priority.toNat copies.toNat options.toNat colour.toNat media.toNat size.toNat) htag ht rfl rfl
    ⟨Nat.le_refl 10, Nat.le_refl 10⟩
  refine ⟨fun hbad => ha.refused (doJobOpen_badField (by simpa [bad, ← BitVec.toNat_inj] using hbad)), ?_⟩
  intro a d c m z hacc hdest hcol hmed hsize hbad filled opens
  have hrange : ¬ 1 < cls.toNat ∧ ¬ (copies.toNat = 0 ∨ 999 < copies.toNat ∨ 8 ≤ options.toNat) := by
    have hcopies : copies = 0 ↔ copies.toNat = 0 := by simp [← BitVec.toNat_inj]
    simp only [bad, hcopies] at hbad
    omega
  have hall := doJobOpen_fields (s := s.taking) (priority := priority.toNat) (hacc ▸ accountNo?_val a) (hdest ▸ destNo?_val d)
    (flag?_byte (by omega : cls.toNat ≤ 1)) (hcol ▸ colour?_code c) (hmed ▸ class?_val m) (hsize ▸ class?_val z) hrange.2
  rw [account_taking, dest_taking] at hall
  refine ⟨fun hacc => ?noAccount, fun hacc hen => ?disabled, fun hacc hen => ?enabled⟩
  case noAccount => exact ha.refused (by rw [hall, hacc]; rfl)
  case disabled => exact ha.refused (by rw [hall, hacc, hen]; rfl)
  case enabled =>
    have opened {t : State} {r : Nat} (htake : takeRecord s.taking = some (t, r)) : opens t r :=
      ha.answers (by rw [hall, hacc, hen, htake]; rfl)
    refine ⟨fun r hr hfree hlow => opened (takeRecord_unused hr hfree hlow), fun hfull hN n rest old hfin hold =>
      opened (takeRecord_reclaims (s := s.taking) hN hfull hfin ((job?_taking n).trans hold)), fun hfull hfin => ?_⟩
    exact ha.refused (by rw [hall, hacc, hen, takeRecord_full (s := s.taking) hfull hfin]; rfl)

/-! ### JOB_CLOSE (R36, R37, R41) -/

theorem modJob_same {f : Job → Job} (hj : s.job? n = some j) (hf : f j = j) : s.modJob n f = s := by
  rw [modJob_congr (g := id) (job?_ne_zero hj) hj hf, State.modJob]
  have h : updateJob n id s.jt.jobs = s.jt.jobs := by
    induction s.jt.jobs with
    | nil => rfl
    | cons x l ih => simp [updateJob, ih]
  rw [h]

/-- A job of whom nothing but a change to RUNNING is asked (R41). -/
theorem setJobState_running (hj : s.job? n = some j) (hst : j.state ≠ .running) :
    setJobState n .running r s = (s.modJob n (fun j => { j with state := .running })).noteJob n r := by
  simp [setJobState, hj, hst]

/-- The port of a run job tests whether it dispatches once the limit has risen. -/
theorem limitRaised_run {u : State} (hu : starvedTest n .data s = u) (hr : u.runPort n = some p) :
    limitRaised n s = (u, [.dispatch p]) := by
  simp only [limitRaised, hu, hr]

/-- A job with closed data is not STARVED. -/
theorem starvedTest_closed (hj : s.job? n = some j) (hc : j.dataClosed = true) (hst : j.state = .starved) :
    starvedTest n r s = (s.modJob n (fun j => { j with state := .running })).noteJob n r := by
  have hrun : j.runState = .running := by simp [Job.runState, hc]
  simp only [starvedTest, hj, hst, or_true, if_true, hrun]
  exact setJobState_running hj (by simp [hst])

theorem starvedTest_running (hj : s.job? n = some j) (hrun : j.runState = .running) (hst : j.state = .running) :
    starvedTest n r s = s := by
  simp only [starvedTest, hj, hst, true_or, if_true, hrun]
  exact setJobState_same hj hst

/-- JOB_CLOSE of a job with complete images whose data is open. -/
theorem doJobClose_of {u : State} {ts : List Task} (hj : s.job? n = some j) (he : j.state.ending = false)
    (ho : j.dataClosed = false) (hb : ∀ x ∈ s.smm.images, x.job = n → x.complete = true) (hc : j.complete ≠ 0)
    (h : dataClosed j.closed (s.modJob n Job.closed) = (u, ts)) :
    doJobClose n s = .ok { contents := be32 (j.copies * j.complete), st := u, tasks := ts ++ [.settle] } := by
  have hb : (s.smm.building? n).isSome = false := by
    rw [Option.isSome_eq_false_iff, Option.isNone_iff_eq_none]
    exact List.find?_eq_none.mpr fun x hx => by simpa using hb x hx
  rw [doJobClose, withJob_of_some hj, he, ho, hb, h]
  simp [hc]

/-- A job closed with sheets still to deliver stays where it is. -/
theorem dataClosed_stays (hd : j.delivered ≠ j.copies * j.complete)
    (hst : j.state = .queued ∨ j.state = .held ∨ j.state = .draining ∨ j.state = .suspended) : dataClosed j s = (s, []) := by
  rw [dataClosed, if_neg hd]
  rcases hst with h | h | h | h <;> simp only [h]

theorem dataClosed_spooling (hd : j.delivered ≠ j.copies * j.complete) (hst : j.state = .spooling) :
    dataClosed j s = leaveSpooling j s := by
  rw [dataClosed, if_neg hd, hst]

theorem dataClosed_run (hd : j.delivered ≠ j.copies * j.complete) (hst : j.state = .running ∨ j.state = .starved) :
    dataClosed j s = limitRaised j.num s := by
  rw [dataClosed, if_neg hd]
  rcases hst with h | h <;> simp only [h]

theorem dataClosed_done (hd : j.delivered = j.copies * j.complete) : dataClosed j s = finishJob j .done .data s := if_pos hd

theorem job?_closed (hj : s.job? n = some j) : (s.modJob n Job.closed).job? n = some j.closed :=
  job?_modJob_self (fun _ => rfl) hj

/-- A SPOOLING job with hold reasons goes to HELD (R36). -/
theorem leaveSpooling_held {f : Job → Job} (hf : ∀ j, (f j).num = j.num) (hj : s.job? n = some j)
    (hst : (f j).state = .spooling) (hh : (f j).holds.isEmpty = false) (hr : s.runPort n = none) :
    leaveSpooling (f j) (s.modJob n f) = ((s.modJob n (fun j => { f j with state := .held })).noteJob n .data, []) := by
  have hnum : (f j).num = n := (hf j).trans (job?_num hj)
  rw [leaveSpooling, hh, hnum, if_neg (by simp), setJobState_away hf hj (by simp [hst]) hr]

/-- One without goes to QUEUED (R36). -/
theorem leaveSpooling_queued {f : Job → Job} (hf : ∀ j, (f j).num = j.num) (hj : s.job? n = some j)
    (hh : (f j).holds.isEmpty = true) : leaveSpooling (f j) (s.modJob n f) = joinQueue n .data (s.modJob n f) := by
  have hnum : (f j).num = n := (hf j).trans (job?_num hj)
  rw [leaveSpooling, hh, hnum, if_pos rfl]

/-- Settles O19. -/
theorem jobCloseCloses : Obligations.JobCloseCloses := by
  intro tag job s htag ht n i f
  have ha : Asks i s f (doJobClose n s.taking) :=
    asks (h := fun _ => doJobClose n) htag ht rfl rfl ⟨Nat.le_refl 2, Nat.le_refl 2⟩
  refine ⟨fun hnone => ha.refused (withJob_of_none ((job?_taking n).trans hnone) _), ?_⟩
  intro j hj shut ok t
  have hjob : s.taking.job? n = some j := (job?_taking n).trans hj
  have hnum : j.num = n := job?_num hj
  have hwith {e : Status} (h : _ = Except.error e) : Answers i s f e [] s.taking := ha.refused ((withJob_of_some hjob _).trans h)
  refine ⟨fun he => hwith (if_pos ((ending_iff _).mpr he)), fun he => ?_⟩
  have he : j.state.ending = false := Bool.eq_false_iff.mpr fun h => he ((ending_iff _).mp h)
  refine ⟨fun hc => hwith (by rw [he, hc]; rfl), fun ho => ⟨fun hb => ?imageOpen, fun hb => ⟨fun hz => ?empty, ?left, ?all⟩⟩⟩
  case imageOpen =>
    obtain ⟨x, hx, hxj, hxc⟩ := hb
    have hsome : (s.taking.smm.building? n).isSome = true :=
      List.find?_isSome.mpr ⟨x, hx, by simp [hxj, hxc]⟩
    exact hwith (by rw [he, ho, hsome]; rfl)
  case empty =>
    have hnone : (s.taking.smm.building? n).isSome = false := by
      rw [Option.isSome_eq_false_iff, Option.isNone_iff_eq_none]
      exact List.find?_eq_none.mpr fun x hx => by simpa using hb x hx
    exact hwith (by rw [he, ho, hnone, hz]; rfl)
  all_goals
    intro hz hd
    have hok {u : State} {ts : List Task} (h : dataClosed j.closed (s.taking.modJob n Job.closed) = (u, ts)) :
        ok (ts ++ [.settle]) u := ha.followed (doJobClose_of hjob he ho hb hz h)
  case left =>
    refine ⟨fun hst => ?stays, fun hst hs hh => ?held, fun hst hs hh hpin => ?queued, fun p hst hp => ?starved,
      fun p hst hp => ?running⟩
    case stays =>
      simp only [List.mem_cons, List.not_mem_nil, or_false] at hst
      exact hok (ts := []) (dataClosed_stays hd hst)
    case held =>
      refine hok (ts := []) ((dataClosed_spooling (j := j.closed) hd hst).trans ?_)
      exact leaveSpooling_held (f := Job.closed) (fun _ => rfl) hjob hst hh (slotless_runPort (s := s.taking) (n := n) hs)
    case queued =>
      refine hok (ts := [.offer n]) ((dataClosed_spooling (j := j.closed) hd hst).trans ?_)
      rw [leaveSpooling_queued (f := Job.closed) (fun _ => rfl) hjob hh, joinQueue_dest (f := Job.closed) (fun _ => rfl) hjob
        (by simp [Job.closed, hst]) hpin (slotless_runPort (s := s.taking) (n := n) hs)]
      have hshut : shut j .spooling = j.closed := by simp only [shut, ← hst]; rfl
      have hu : t.modJob n (fun j => { j with queueEntry := some s.mlc.clock })
          = s.taking.modJob n (fun j => { j.closed with queueEntry := some s.mlc.clock }) :=
        modJob_modJob (f := Job.closed) (fun _ => rfl)
      rw [hshut, hu]
      rfl
    case starved =>
      refine hok (ts := [.dispatch p]) ((dataClosed_run (j := j.closed) hd (.inr hst)).trans ?_)
      rw [show j.closed.num = n from hnum]
      refine limitRaised_run ((starvedTest_closed (job?_closed hjob) rfl hst).trans ?_) ?_
      · rw [modJob_modJob (by simp [Job.closed])]
        rfl
      · exact (runPort_congr fun q => by simp [State.port]).trans (runPort_eq (s := s) (n := n) hp)
    case running =>
      refine hok (ts := [.dispatch p]) ((dataClosed_run (j := j.closed) hd (.inl hst)).trans ?_)
      rw [show j.closed.num = n from hnum]
      exact limitRaised_run (starvedTest_running (job?_closed hjob) rfl hst) (runPort_eq (s := s) (n := n) hp)
  case all =>
    have hclosed : (s.taking.modJob n Job.closed).job? n = some j.closed := job?_closed hjob
    refine ⟨fun hst hs => ?idle, fun hst hs => ?queuedDone, fun p why hst hs => ?suspended, fun p hst hs => ?incoming,
      fun p hst hs => ?run⟩
    case idle =>
      exact hok (ts := []) ((dataClosed_done hd).trans (finishJob_idle hclosed
        (by rcases hst with h | h <;> simp [Job.closed, h]) hnum (k := j.closed) hst.symm
        (slotless_runPort (s := s) (n := n) hs)))
    case queuedDone =>
      exact hok (ts := []) ((dataClosed_done hd).trans (finishJob_queued hclosed hst (by simp) hnum (k := j.closed) hst
        (slotless_runPort (s := s) (n := n) hs)))
    case suspended =>
      have hs' : (s.taking.modJob n Job.closed).suspendedAt p j.closed.num why := hnum ▸ hs
      exact hok (ts := [.pull p]) ((dataClosed_done hd).trans (finishJob_suspended hclosed (by simp [Job.closed, hst]) hnum
        (k := j.closed) hst (fun _ => rfl) (leaveSlot_susp hs') (suspendedAt_runPort (s := s) (n := n) hs)))
    case incoming =>
      have hs' : (s.taking.modJob n Job.closed).incomingAt p j.closed.num := hnum ▸ hs
      exact hok (ts := [.pull p]) ((dataClosed_done hd).trans (finishJob_suspended hclosed (by simp [Job.closed, hst]) hnum
        (k := j.closed) hst (fun _ => rfl) (leaveSlot_inc hs') (incomingAt_runPort (s := s) (n := n) hs)))
    case run =>
      have hs' : (s.taking.modJob n Job.closed).runsAt p n := hs
      refine hok (ts := [.pull p]) ((dataClosed_done hd).trans (finishJob_run hclosed ?_ hnum (k := j.closed) ?_ hs'))
      · rintro h
        have h : j.state = .done := h
        simp [h] at hst
      · simp only [List.mem_cons, List.not_mem_nil, or_false] at hst ⊢
        have h : j.closed.state = j.state := rfl
        rw [h]
        tauto

/-! ### JOB_MOVE (R50) -/

/-- A job joins the queue of its destination, whatever its state was (R60, R64). -/
theorem joinQueue_at {f : Job → Job} (hf : ∀ j, (f j).num = j.num) (hj : s.job? n = some j)
    (hpin : (f j).pinned = false ∨ (f j).bound = none) :
    let u := s.modJob n (fun j => { f j with queueEntry := some s.clock })
    joinQueue n r (s.modJob n f) = (setJobState n .queued r (u.setQueue (f j).dest
      (placeInQueue u { f j with queueEntry := some s.clock } (u.queue (f j).dest))), [.offer n]) := by
  intro u
  have hentry : (s.modJob n f).modJob n (fun j => { j with queueEntry := some (s.modJob n f).clock }) = u :=
    modJob_modJob hf
  have hjob : u.job? n = some { f j with queueEntry := some s.clock } := job?_modJob_self hf hj
  have hat : Job.pinnedAt { f j with queueEntry := some s.clock } = none := by
    rcases hpin with h | h <;> simp [Job.pinnedAt, h]
  rw [joinQueue]
  simp only [hentry, hjob, hat]

/-- Job `j` as a move to destination `d` leaves it (R50). -/
def Job.relocated (d : Fin 32) (clock : Nat) (j : Job) : Job :=
  { j with pinned := false, dest := d, queueEntry := some clock }

/-- Job `j`, out of its queue or slot, in the queue of its new destination (R50, R60). -/
def State.rejoins (s : State) (j : Job) (d : Fin 32) : State :=
  let u := s.modJob j.num (Job.relocated d s.mlc.clock)
  (u.setQueue d (placeInQueue u (j.relocated d s.mlc.clock) (u.queue d))).modJob j.num (fun j => { j with state := .queued })

theorem clock_unqueues (k : Job) : (s.unqueues k).mlc.clock = s.mlc.clock := by
  unfold State.unqueues
  split <;> rfl

/-- A job that was queued stays so, without a JOB_EVENT. -/
theorem joinQueue_again {d : Fin 32} (hj : s.job? n = some j) (hst : j.state = .queued) :
    joinQueue n r (s.modJob n (fun j => { j with pinned := false, dest := d })) = (s.rejoins j d, [.offer n]) := by
  obtain rfl := job?_num hj
  rw [joinQueue_at (f := fun j => { j with pinned := false, dest := d }) (fun _ => rfl) hj (.inl rfl)]
  have hjob : ((s.modJob j.num (Job.relocated d s.clock)).setQueue d (placeInQueue (s.modJob j.num (Job.relocated d s.clock))
      (j.relocated d s.clock) ((s.modJob j.num (Job.relocated d s.clock)).queue d))).job? j.num
      = some (j.relocated d s.clock) := (job?_setQueue _ _).trans (job?_modJob_self (fun _ => rfl) hj)
  have hsame := setJobState_same (r := r) hjob (st := .queued) hst
  have hstay := modJob_same (f := fun j => { j with state := .queued }) hjob (by rw [← hst]; rfl)
  exact Prod.ext (hsame.trans hstay.symm) rfl

/-- Any other job goes to QUEUED. -/
theorem joinQueue_anew {d : Fin 32} (hj : s.job? n = some j) (hst : j.state ≠ .queued) (hr : s.runPort n = none) :
    joinQueue n r (s.modJob n (fun j => { j with pinned := false, dest := d }))
      = ((s.rejoins j d).noteJob n r, [.offer n]) := by
  obtain rfl := job?_num hj
  exact joinQueue_dest (f := fun j => { j with pinned := false, dest := d }) (fun _ => rfl) hj hst (.inl rfl) hr

/-- What stands in the way of a move: nothing, for a run job only at a port that is not usable, with nothing in flight. -/
theorem movable_run (hr : s.runPort j.num = some p) (hst : j.state = .running ∨ j.state = .starved) :
    movable s j = ((s.port p).inFlight.isEmpty && !(s.port p).usable) := by
  rcases hst with h | h <;> simp only [movable, h, hr]

/-- A move of a job that leaves its queue or slot. -/
theorem moveJob_of {d : Fin 32} {u : State} {ts : List Task} (hd : detach j s = (u, ts)) (hst : j.state ≠ .held) :
    moveJob j d s = ((joinQueue j.num .host (u.modJob j.num (fun j => { j with pinned := false, dest := d }))).1,
      ts ++ (joinQueue j.num .host (u.modJob j.num (fun j => { j with pinned := false, dest := d }))).2) := by
  simp only [moveJob, hd, if_neg hst]

/-- A job out of a slot joins the new destination's queue, and the port and the destination act. -/
theorem moveJob_slot {d : Fin 32} {u : State} (hd : detach j s = (u, [.pull p])) (hj : u.job? n = some j)
    (hst : j.state ≠ .held ∧ j.state ≠ .queued) (hr : u.runPort n = none) :
    moveJob j d s = ((u.rejoins j d).noteJob n .host, [.pull p, .offer n]) := by
  obtain rfl := job?_num hj
  rw [moveJob_of hd hst.1, joinQueue_anew hj hst.2 hr]
  rfl

/-- A queued job leaves its queue for that of its new destination. -/
theorem moveJob_queued {d : Fin 32} (hj : s.job? n = some j) (hst : j.state = .queued) :
    moveJob j d s = ((s.unqueues j).rejoins j d, [.offer n]) := by
  obtain rfl := job?_num hj
  have hd : detach j s = (leaveQueue j s, []) := by simp only [detach, hst]
  have hjob : (leaveQueue j s).job? j.num = some { j with queueEntry := none } := by
    rw [leaveQueue_eq, job?_unqueues]
    exact job?_modJob_self (fun _ => rfl) hj
  have hentry : (leaveQueue j s).rejoins { j with queueEntry := none } d = (s.unqueues j).rejoins j d := by
    have hclock : (leaveQueue j s).mlc.clock = (s.unqueues j).mlc.clock := by
      rw [leaveQueue_eq, ← unqueues_modJob]; rfl
    have hmod (c : Nat) : (leaveQueue j s).modJob j.num (Job.relocated d c) = (s.unqueues j).modJob j.num (Job.relocated d c) := by
      rw [leaveQueue_eq, ← unqueues_modJob, modJob_modJob (by simp)]
      rfl
    simp only [State.rejoins, hclock, hmod]
    rfl
  rw [moveJob_of hd (by simp [hst]), joinQueue_again hjob hst, hentry]
  rfl

/-- Settles O25. -/
theorem jobMoveMoves : Obligations.JobMoveMoves := by
  intro tag dest job s htag ht n i f
  have ha : Asks i s f (doJobMove n dest.toNat s.taking) :=
    asks (h := fun _ => doJobMove n dest.toNat) htag ht rfl rfl ⟨Nat.le_refl 3, Nat.le_refl 3⟩
  refine ⟨fun hd => ha.refused (field_none (destNo?_eq_none hd) _), ?_⟩
  intro d hdest
  rw [hdest] at ha
  have hfield : doJobMove n d.val s.taking = _ := field_some (destNo?_val d) _
  refine ⟨fun hnone => ha.refused (hfield.trans (withJob_of_none ((job?_taking n).trans hnone) _)), ?_⟩
  intro j hj
  have hjob : s.taking.job? n = some j := (job?_taking n).trans hj
  have hnum : j.num = n := job?_num hj
  have hall := hfield.trans (withJob_of_some hjob _)
  refine ⟨fun hen => ha.refused ?disabled, fun hen => ?enabled⟩
  case disabled =>
    rw [hall, dest_taking, hen]
    rfl
  have hno (h : movable s.taking j = false) : Answers i s f .wrongState [] s.taking :=
    ha.refused (by rw [hall, dest_taking, hen, h]; rfl)
  have hyes {u : State} {ts : List Task} (h : movable s.taking j = true) (hm : moveJob j d s.taking = (u, ts)) :
      AnswersThen i s f [] (ts ++ [.settle]) u :=
    ha.followed (by rw [hall, dest_taking, hen, h, hm]; rfl)
  refine ⟨fun hst => hno ?_, fun p hst hp hbusy => hno ?_, fun hst => ?held, ?_⟩
  · simp only [List.mem_cons, List.not_mem_nil, or_false] at hst
    rcases hst with h | h | h | h | h <;> simp only [movable, h]
  · rw [movable_run (hnum ▸ runPort_eq (s := s.taking) (n := n) hp) hst, port_taking]
    rcases hbusy with h | h <;> simp [h]
  case held =>
    have hm : moveJob j d s.taking = (s.taking.modJob n (fun j => { j with pinned := false, dest := d }), []) := by
      simp only [moveJob, detach, hst, if_true, hnum]
    have h := hyes (by simp only [movable, hst]) hm
    rwa [AnswersThen, List.nil_append, cascade_settle] at h
  intro moved joins
  have hclock : s.taking.mlc.clock = s.mlc.clock := by simp
  have hjoins (u : State) (hu : u.mlc.clock = s.taking.mlc.clock) : joins u = u.rejoins j d := by
    rw [State.rejoins, hu, hclock, hnum]
    rfl
  -- Only `hjoins` speaks of `joins` from here on.
  clear_value joins
  refine ⟨fun hst hs => ?queued, fun p why hst hs => ?suspended, fun p hst hs => ?incoming, fun p hst hp hidle hdown => ?run⟩
  case queued =>
    rw [hjoins _ (clock_unqueues j)]
    exact hyes (ts := [.offer n]) (by simp only [movable, hst]) (moveJob_queued hjob hst)
  case suspended =>
    rw [hjoins (s.taking.modPort p _) (by simp)]
    have hs' : s.taking.suspendedAt p j.num why := hnum ▸ hs
    have hr : s.taking.runPort n = none := hnum ▸ suspendedAt_runPort hs'
    have hd : detach j s.taking = (s.taking.modPort p (fun x => { x with susp := none }), [.pull p]) := by
      simp only [detach, hst, leaveSlot_susp hs']
    exact hyes (ts := [.pull p, .offer n]) (by simp only [movable, hst]) (moveJob_slot hd ((job?_modPort p _).trans hjob) (by simp [hst])
      ((runPort_modPort (by simp) n).trans hr))
  case incoming =>
    rw [hjoins (s.taking.modPort p _) (by simp)]
    have hs' : s.taking.incomingAt p j.num := hnum ▸ hs
    have hr : s.taking.runPort n = none := hnum ▸ incomingAt_runPort hs'
    have hd : detach j s.taking = (s.taking.modPort p (fun x => { x with inc := none }), [.pull p]) := by
      simp only [detach, hst, leaveSlot_inc hs']
    exact hyes (ts := [.pull p, .offer n]) (by simp only [movable, hst]) (moveJob_slot hd ((job?_modPort p _).trans hjob) (by simp [hst])
      ((runPort_modPort (by simp) n).trans hr))
  case run =>
    rw [hjoins (evalMedia p (s.taking.modPort p _)) (by simp)]
    have hr : s.taking.runPort j.num = some p := hnum ▸ runPort_eq (s := s.taking) (n := n) hp
    have hd : detach j s.taking = (leaveRun p s.taking, [.pull p]) := by
      rcases hst with h | h <;> simp only [detach, h, leaveSlot_run hr]
    have hmov : movable s.taking j = true := by rw [movable_run hr hst, port_taking, hidle, hdown]; rfl
    exact hyes (ts := [.pull p, .offer n]) hmov (moveJob_slot hd ((job?_leaveRun p).trans hjob) (by rcases hst with h | h <;> simp [h])
      (runPort_emptied (s := s.taking) (n := n) hp (run_leaveRun p)))

/-! ### Queue order (R61) -/

theorem ahead_iff (a b : Job) : a.ahead b = true ↔ Before a b := by
  simp only [Job.ahead, Bool.or_eq_true, Bool.and_eq_true, Bool.not_eq_true', beq_iff_eq, decide_eq_true_eq]

/-- No job stands both before and after another. -/
theorem Before.asymm {a b : Job} (h : Before a b) : ¬ Before b a := by
  rintro (⟨h1, h2⟩ | ⟨h1, h2⟩) <;> rcases h with ⟨h3, h4⟩ | ⟨h3, h4⟩
  · simp_all
  · simp_all
  · simp_all
  · omega

/-- A third job is ahead of the one or behind the other. -/
theorem Before.or {a b : Job} (h : Before a b) (c : Job) : Before a c ∨ Before c b := by
  unfold Before at *
  rcases h with ⟨h1, h2⟩ | ⟨h1, h2⟩
  · cases hc : c.rush <;> simp_all
  · by_cases hac : a.rush = c.rush
    · rw [← hac, ← h1]
      simp only [true_and]
      omega
    · cases ha : a.rush <;> cases hc : c.rush <;> simp_all

/-- A job is placed behind those it is not ahead of, in front of the first it is ahead of. -/
theorem placeInQueue_split (s : State) (j : Job) (q : List Nat) (hin : ∀ n ∈ q, s.job? n ≠ none) :
    ∃ q₁ q₂, q = q₁ ++ q₂ ∧ placeInQueue s j q = q₁ ++ j.num :: q₂
      ∧ (∀ n ∈ q₁, ∀ k, s.job? n = some k → ¬ Before j k)
      ∧ ∀ b ∈ q₂.head?, ∀ k, s.job? b = some k → Before j k := by
  induction q with
  | nil => exact ⟨[], [], rfl, rfl, by simp, by simp⟩
  | cons b bs ih =>
    obtain ⟨k, hk⟩ := Option.ne_none_iff_exists'.mp (hin b (List.mem_cons_self ..))
    by_cases hahead : j.ahead k = true
    · refine ⟨[], b :: bs, rfl, by simp [placeInQueue, hk, hahead], by simp, fun b' hb' k' hk' => ?_⟩
      obtain rfl : b = b' := by simpa using hb'
      rw [hk] at hk'
      cases hk'
      exact (ahead_iff j k).mp hahead
    · obtain ⟨q₁, q₂, hq, hplace, hfront, hback⟩ := ih fun n hn => hin n (List.mem_cons_of_mem _ hn)
      refine ⟨b :: q₁, q₂, by rw [hq]; rfl, by simp [placeInQueue, hk, hahead, hplace], fun n hn k' hk' => ?_, hback⟩
      rcases List.mem_cons.mp hn with rfl | hn
      · rw [hk] at hk'
        cases hk'
        exact fun hb => hahead ((ahead_iff j k).mpr hb)
      · exact hfront n hn k' hk'

/-- Settles O34: where the queue is in order, the job is ahead of all behind the first it is ahead of. -/
theorem queueOrder : Obligations.QueueOrder := by
  intro s j q hj hnotin hin hord
  obtain ⟨q₁, q₂, rfl, hplace, hfront, hhead⟩ := placeInQueue_split s j q hin
  obtain ⟨hord₁, hord₂, hcross⟩ := List.pairwise_append.mp hord
  have hback : ∀ n ∈ q₂, ∀ k, s.job? n = some k → Before j k := by
    cases q₂ with
    | nil => nofun
    | cons b bs =>
      intro n hn k hk
      obtain ⟨x, hx⟩ := Option.ne_none_iff_exists'.mp (hin b (by simp))
      have hbx : Before j x := hhead b (by simp) x hx
      rcases List.mem_cons.mp hn with rfl | hn
      · exact hhead n (by simp) k hk
      · exact (hbx.or k).resolve_right (List.rel_of_pairwise_cons hord₂ hn x k hx hk)
  refine ⟨?_, q₁, q₂, rfl, hplace, hfront, hback⟩
  rw [hplace]
  refine List.pairwise_append.mpr ⟨hord₁, List.pairwise_cons.mpr ⟨fun n hn a b ha hb => ?_, hord₂⟩, fun x hx y hy a b ha hb => ?_⟩
  · rw [hj] at ha
    cases ha
    exact (hback n hn b hb).asymm
  · rcases List.mem_cons.mp hy with rfl | hy
    · rw [hj] at hb
      cases hb
      exact hfront x hx a ha
    · exact hcross x hx y hy a b ha hb

end Sys2Proof.Machine
end

section
/-! PROOF. SHEET_DATA and SHEET_END: the spool after the bytes are stored, and the image completed (R20 to R26, R36,
R41). -/

namespace Sys2Proof.Machine

variable {s : State} {n : Nat} {j : Job} {p : PortNo} {m : List Host.Cell} {x y g : Image} {data : List Byte}

/-! ### Addresses of an image's bytes (R16) -/

/-- Two addresses that agree are in one block, at one offset. -/
theorem byteAddr_inj {l d : List Nat} {i k : Nat} (h : byteAddr l i = byteAddr d k) :
    l.getD (i / 32768) 0 = d.getD (k / 32768) 0 ∧ i % 32768 = k % 32768 := by
  unfold byteAddr blockSize at h
  omega

/-- The block of a byte that a chain covers is one of the chain's. -/
theorem getD_covered {l : List Nat} {i : Nat} (h : i < 32768 * l.length) : ∃ hi : i / 32768 < l.length,
    l.getD (i / 32768) 0 = l[i / 32768] := by
  have hi : i / 32768 < l.length := by omega
  exact ⟨hi, by simp [hi]⟩

/-- Bytes of one image have addresses of their own. -/
theorem byteAddr_ne {l : List Nat} (hl : l.Nodup) {i k : Nat} (hi : i < 32768 * l.length) (hk : k < 32768 * l.length)
    (hne : i ≠ k) : byteAddr l i ≠ byteAddr l k := by
  intro h
  obtain ⟨hb, ho⟩ := byteAddr_inj h
  obtain ⟨hi', ei⟩ := getD_covered hi
  obtain ⟨hk', ek⟩ := getD_covered hk
  rw [ei, ek] at hb
  have := (hl.getElem_inj_iff).mp hb
  omega

/-- Bytes of two images with no block in common have different addresses. -/
theorem byteAddr_disjoint {l d : List Nat} (hld : l.Disjoint d) {i k : Nat} (hi : i < 32768 * l.length)
    (hk : k < 32768 * d.length) : byteAddr l i ≠ byteAddr d k := by
  intro h
  obtain ⟨hb, -⟩ := byteAddr_inj h
  obtain ⟨hi', ei⟩ := getD_covered hi
  obtain ⟨hk', ek⟩ := getD_covered hk
  rw [ei, ek] at hb
  exact hld (List.getElem_mem hi') (hb ▸ List.getElem_mem hk')

/-- A longer chain has the addresses of the one it began with. -/
theorem byteAddr_append {l : List Nat} (more : List Nat) {i : Nat} (hi : i < 32768 * l.length) :
    byteAddr (l ++ more) i = byteAddr l i := by
  obtain ⟨hi', -⟩ := getD_covered hi
  simp [byteAddr, blockSize, List.getD_eq_getElem?_getD, List.getElem?_append_left hi']

/-! ### The bytes of an image after a store (R23, R26) -/

/-- The image that the data went to reads as before, with the data after it. -/
theorem imageBytes_stored (hm : Memory.wf m = true) (hx : x.covered) {more : List Nat} (hchain : g.chain = x.chain ++ more)
    (hlen : g.length = x.length + data.length) (hg : g.covered) (hnd : g.chain.Nodup) :
    imageBytes (storeBytes g.chain x.length data m) g = imageBytes m x ++ data := by
  unfold Image.covered at hx hg
  rw [imageBytes, hlen, List.range_add, List.map_append]
  refine congrArg₂ (· ++ ·) ?front ?back
  · refine List.map_congr_left fun k hk => ?_
    have hk := List.mem_range.mp hk
    rw [memRead_storeBytes_other hm fun i h1 h2 => byteAddr_ne hnd (by omega) (by omega) (by omega), hchain,
      byteAddr_append more (by omega)]
  · refine List.ext_getElem (by simp) fun k h1 h2 => ?_
    simp only [List.map_map, List.getElem_map, List.getElem_range, Function.comp]
    exact memRead_storeBytes_at hm h2 fun i k h1 h2 h3 => byteAddr_ne hnd (by omega) (by omega) (by omega)

/-- An image with other blocks reads as before. -/
theorem imageBytes_other (hm : Memory.wf m = true) {c : List Nat} {k : Nat} (hc : k + data.length ≤ 32768 * c.length)
    (hy : y.covered) (hcy : c.Disjoint y.chain) : imageBytes (storeBytes c k data m) y = imageBytes m y := by
  unfold Image.covered at hy
  refine List.map_congr_left fun i hi => ?_
  have hi := List.mem_range.mp hi
  exact memRead_storeBytes_other hm fun l h1 h2 => byteAddr_disjoint hcy (by omega) (by omega)

/-! ### Chains of a parted spool -/

section Parted

variable {q : Smm} (h : Parted q)

include h

theorem Parted.chain_nodup (hx : x ∈ q.images) : x.chain.Nodup := by
  have hnd := (h.blocks.nodup_iff.mpr List.nodup_range).of_append_right
  exact (List.nodup_flatMap.mp hnd).1 x hx

/-- Images with different records have no block in common. -/
theorem Parted.chain_disjoint (hx : x ∈ q.images) (hy : y ∈ q.images) (hne : x.record ≠ y.record) :
    x.chain.Disjoint y.chain := by
  have hnd := (h.blocks.nodup_iff.mpr List.nodup_range).of_append_right
  have hpw := (List.nodup_flatMap.mp hnd).2
  have : Std.Symm (Function.onFun List.Disjoint fun i : Image => i.chain) := ⟨fun a b hab => hab.symm⟩
  exact hpw.forall hx hy fun he => hne (by rw [he])

end Parted

/-- Writing the record of an image in a table of distinct records replaces that image alone. -/
theorem updateImage_eq_map {l : List Image} (hn : (l.map fun x => x.record).Nodup) (hx : x ∈ l) {u f : Image → Image}
    (hf : u x = f x) : updateImage x.record u l = l.map (fun y => if y.record = x.record then f y else y) := by
  obtain ⟨pre, post, rfl, hu⟩ := updateImage_split u hn hx
  rw [hu, hf]
  rw [List.map_append, List.map_cons, List.nodup_append] at hn
  obtain ⟨-, hpost, hpre⟩ := hn
  have hstay {l' : List Image} (hl : ∀ y ∈ l', y.record ≠ x.record) :
      l'.map (fun y => if y.record = x.record then f y else y) = l' := by
    rw [List.map_congr_left fun y hy => if_neg (hl y hy), List.map_id']
  rw [List.map_append, List.map_cons, if_pos rfl,
    hstay fun y hy => hpre _ (List.mem_map_of_mem hy) _ (List.mem_cons_self ..),
    hstay fun y hy he => (List.nodup_cons.mp hpost).1 (he ▸ List.mem_map_of_mem hy)]

/-! ### SHEET_DATA (R20 to R23) -/

theorem takesData_iff (j : Job) : j.takesData = true ↔ j.open_ := by
  unfold Job.takesData Job.open_
  cases j.dataClosed <;> cases j.earlyStart <;> cases j.state <;> simp

/-- Image `x` with the data appended, and the block it needs for them (R17, R23). -/
def Smm.grown (q : Smm) (x : Image) (data : List Byte) : Image :=
  { q.grow x (x.needsBlock data.length) with length := x.length + data.length }

theorem grown_chain (q : Smm) (x : Image) (data : List Byte) :
    (q.grown x data).chain = x.chain ++ if x.needsBlock data.length then q.free.take 1 else [] := by
  unfold Smm.grown Smm.grow
  split <;> simp

theorem record_grown (q : Smm) (x : Image) (data : List Byte) : (q.grown x data).record = x.record := by
  unfold Smm.grown Smm.grow
  split <;> rfl

/-- The image the data go to stands in the table after them, and every other image does too. -/
theorem mem_appendData {q : Smm} (hq : Parted q) (hx : q.dataImage n = some x) :
    q.grown x data ∈ (q.appendData x (q.building? n).isNone (x.needsBlock data.length) data).images
      ∧ ∀ y ∈ q.images, y.record ≠ x.record →
        y ∈ (q.appendData x (q.building? n).isNone (x.needsBlock data.length) data).images := by
  rcases dataImage_eq_some hx with hb | ⟨hb, -, -⟩
  · obtain ⟨pre, post, himages, hu⟩ := updateImage_split (fun _ => q.grown x data) hq.records (building?_eq_some hb).1
    have himg : (q.appendData x (q.building? n).isNone (x.needsBlock data.length) data).images
        = pre ++ q.grown x data :: post := by rw [hb, ← hu]; rfl
    rw [himg, himages]
    refine ⟨by simp, fun y hy hne => ?_⟩
    rcases List.mem_append.mp hy with hy | hy
    · exact List.mem_append_left _ hy
    · rcases List.mem_cons.mp hy with rfl | hy
      · exact absurd rfl hne
      · exact List.mem_append_right _ (List.mem_cons_of_mem _ hy)
  · have himg : (q.appendData x (q.building? n).isNone (x.needsBlock data.length) data).images
        = insertImage (q.grown x data) q.images := by rw [hb]; rfl
    have hperm := insertImage_perm (q.grown x data) q.images
    rw [himg]
    exact ⟨hperm.mem_iff.mpr (List.mem_cons_self ..), fun y hy _ => hperm.mem_iff.mpr (List.mem_cons_of_mem _ hy)⟩

/-- The spool once the data have been stored: the image, the other images, every other byte (R23). -/
theorem stored_reads {q : Smm} (hq : Parted q) (hm : Memory.wf q.spool = true) (hx : q.dataImage n = some x)
    (hd : data.length ≤ 1024) (hf : x.needsBlock data.length = true → q.free ≠ []) :
    let spool := storeBytes (q.grown x data).chain x.length data q.spool
    imageBytes spool (q.grown x data) = imageBytes q.spool x ++ data
      ∧ (∀ y ∈ q.images, y.record ≠ x.record → imageBytes spool y = imageBytes q.spool y)
      ∧ ∀ a, (∀ k, x.length ≤ k → k < x.length + data.length → byteAddr (q.grown x data).chain k ≠ a) →
          memRead spool a = memRead q.spool a := by
  intro spool
  have hparted := hq.append hx hd hf
  obtain ⟨hmem, hothers⟩ := mem_appendData (data := data) hq hx
  have hcov : (q.grown x data).covered := hparted.covered _ hmem
  have hxcov : x.covered := by
    rcases dataImage_eq_some hx with hb | ⟨-, -, r, -, rfl⟩
    · exact hq.covered x (building?_eq_some hb).1
    · exact Nat.zero_le _
  refine ⟨imageBytes_stored hm hxcov (grown_chain q x data) rfl hcov (hparted.chain_nodup hmem), fun y hy hne => ?_,
    fun a ha => memRead_storeBytes_other hm ha⟩
  have hdis := hparted.chain_disjoint hmem (hothers y hy hne) (by rw [record_grown]; exact hne.symm)
  exact imageBytes_other hm hcov (hq.covered y hy) hdis

section Data

variable (hj : s.job? n = some j) (ht : j.takesData = true)

include hj ht

theorem doSheetData_tableFull (hx : s.smm.dataImage n = none) : doSheetData n data s = .error .imageTableFull := by
  rw [doSheetData, withJob_of_some hj, ht, hx]
  rfl

variable (hx : s.smm.dataImage n = some x)

include hx

theorem doSheetData_tooLarge (h : 8388608 < x.length + data.length) : doSheetData n data s = .error .imageTooLarge := by
  rw [doSheetData, withJob_of_some hj, ht, hx]
  exact if_pos h

theorem doSheetData_full (hl : x.length + data.length ≤ 8388608)
    (h : (x.needsBlock data.length && s.blockRefused j.rush) = true) : doSheetData n data s = .error .spoolFull := by
  rw [doSheetData, withJob_of_some hj, ht, hx]
  exact (if_neg (Nat.not_lt.mpr hl)).trans (if_pos h)

theorem doSheetData_stores (hl : x.length + data.length ≤ 8388608)
    (h : (x.needsBlock data.length && s.blockRefused j.rush) = false) : doSheetData n data s
      = .ok { contents := be16 x.index ++ be32 (x.length + data.length)
              st := storeData x (s.smm.building? n).isNone data s } := by
  rw [doSheetData, withJob_of_some hj, ht, hx]
  exact (if_neg (Nat.not_lt.mpr hl)).trans (if_neg (by simp [h]))

end Data

theorem doSheetData_closed (hj : s.job? n = some j) (ht : j.takesData = false) :
    doSheetData n data s = .error .wrongState := by
  rw [doSheetData, withJob_of_some hj, ht]
  rfl

/-- A job with an image under construction adds to it; Table 3-1 allows one (R19). -/
theorem dataImage_building {q : Smm} (hq : Parted q) (hx : x ∈ q.images) (hj : x.job = n) (hc : x.complete = false) :
    q.building? n = some x := by
  cases hb : q.building? n with
  | none => exact absurd (building?_eq_none hb x hx hj) (by simp [hc])
  | some i =>
    obtain ⟨hi, hij, hic⟩ := building?_eq_some hb
    rw [hq.building i hi x hx (hij.trans hj.symm) hic hc]

theorem building?_none {q : Smm} (h : ∀ x ∈ q.images, x.job = n → x.complete = true) : q.building? n = none :=
  List.find?_eq_none.mpr fun x hx => by simpa using h x hx

/-- Settles O30. -/
theorem sheetDataStores : Obligations.SheetDataStores := by
  intro tag job data s htag ht h1 hd hpart hcanon n i f refused
  have hq : Parted s.smm := spoolPartition_iff.mp hpart
  have hask : Asks i s f (doSheetData n data s.taking) := by
    refine asks (h := fun _ => doSheetData n data) htag ht rfl rfl ?_
    simp only [List.length_append, be16_length]
    omega
  refine ⟨fun hnone => hask.refused (withJob_of_none ((job?_taking n).trans hnone) _), ?_⟩
  intro j hj needs short grown fate
  have hjob : s.taking.job? n = some j := (job?_taking n).trans hj
  refine ⟨fun hclosed => hask.refused (doSheetData_closed hjob
    (Bool.eq_false_iff.mpr fun h => hclosed ((takesData_iff j).mp h))), fun hopen => ?_⟩
  have hopen : j.takesData = true := (takesData_iff j).mpr hopen
  have hgrown (x : Image) : grown x = s.smm.grown x data := by
    show ({ x with
      chain := if x.needsBlock data.length then x.chain ++ s.smm.free.take 1 else x.chain
      length := x.length + data.length } : Image) = _
    unfold Smm.grown Smm.grow
    cases x.needsBlock data.length <;> rfl
  have hshort (x : Image) : short x ↔ (x.needsBlock data.length && s.taking.blockRefused j.rush) = true := by
    simp only [short, needs, Image.needsBlock, blockSize, State.blockRefused, Bool.and_eq_true]
    refine and_congr_right fun _ => ?_
    show _ ↔ (if j.rush then s.smm.free.isEmpty else decide (s.smm.free.length ≤ s.cfg.rushReserve)) = true
    split <;> simp
  have hfate {x : Image} {images : List Image} (hx : s.smm.dataImage n = some x)
      (himages : (s.smm.appendData x (s.smm.building? n).isNone (x.needsBlock data.length) data).images = images) :
      fate x images := by
    refine ⟨fun hl => hask.refused (doSheetData_tooLarge hjob hopen hx hl),
      fun hl hs => hask.refused (doSheetData_full hjob hopen hx hl ((hshort x).mp hs)), fun hl hs => ?_⟩
    have hs : (x.needsBlock data.length && s.taking.blockRefused j.rush) = false :=
      Bool.eq_false_iff.mpr fun h => hs ((hshort x).mpr h)
    have hfree (hn : x.needsBlock data.length = true) : s.smm.free ≠ [] := by
      rintro he
      have hr : s.taking.blockRefused j.rush = false := by simpa [hn] using hs
      have hfree' : s.taking.smm.free = [] := he
      rw [State.blockRefused, hfree'] at hr
      cases hrush : j.rush <;> simp [hrush] at hr
    intro spool t
    have hspool : spool = storeBytes (s.smm.grown x data).chain x.length data s.smm.spool := by
      simp only [spool, hgrown]
    rw [hspool, hgrown]
    refine ⟨?_, stored_reads hq hcanon hx hd hfree⟩
    have happend : s.smm.appendData x (s.smm.building? n).isNone (x.needsBlock data.length) data
        = { s.smm with free := if needs x then s.smm.free.tail else s.smm.free, images := images
                       spool := storeBytes (s.smm.grown x data).chain x.length data s.smm.spool } := by
      rw [← himages]
      have hf : s.smm.free.drop (bit (x.needsBlock data.length)) = if needs x then s.smm.free.tail else s.smm.free := by
        show s.smm.free.drop (bit (needs x)) = _
        cases needs x <;> simp [bit]
      rw [← hf]
      rfl
    have hstate : storeData x (s.taking.smm.building? n).isNone data s.taking = if needs x then evalSpoolLow t else t := by
      have ht : ({ s.taking with smm := s.smm.appendData x (s.smm.building? n).isNone (x.needsBlock data.length) data } : State)
          = t := by rw [happend, ← hspool]
      rw [← ht]
      rfl
    rw [← hstate]
    exact hask.answers (doSheetData_stores hjob hopen hx hl hs)
  refine ⟨fun x hx hxj hxc => hfate (x := x) ?_ ?_, fun hall => ⟨fun hfull => ?_, ?_⟩⟩
  · have hb := dataImage_building hq hx hxj hxc
    simp only [Smm.dataImage, hb]
  · rw [dataImage_building hq hx hxj hxc]
    simp only [hgrown]
    exact updateImage_eq_map hq.records hx (f := fun y => s.smm.grown y data) rfl
  · have hnone : s.smm.dataImage n = none := by
      rw [Smm.dataImage, building?_none hall]
      rcases hfull with hcount | hrec
      · exact if_pos hcount
      · have : s.smm.freeRecord = none := lowestUnused_eq_none.mpr fun k _ hk => by
          simpa using hrec k (by simpa [imageRecords] using hk)
        simp [this]
    exact hask.refused (doSheetData_tableFull hjob hopen hnone)
  · intro r hr hcount hfree hlow x
    have hrec : s.smm.freeRecord = some r := lowestUnused_eq_some.mpr
      ⟨Nat.zero_le _, by simpa [imageRecords] using hr, by simpa using hfree, fun k _ hk => by simpa using hlow k hk⟩
    refine hfate (x := x) ?_ ?_
    · rw [Smm.dataImage, building?_none hall, hrec]
      exact if_neg (Nat.not_le.mpr hcount)
    · rw [building?_none hall, hgrown]
      rfl

/-! ### SHEET_END (R24, R25) -/

/-- The sides and the offset that fit the job and the image (R24). -/
theorem sidesFit_iff {sides : Byte} {offset : Word} : sidesFit j x sides.toNat offset.toNat = true
    ↔ (sides = 1 ∧ offset = 0) ∨ (sides = 2 ∧ j.duplex = true ∧ 0 < offset.toNat ∧ offset.toNat < x.length) := by
  have h1 : sides.toNat = 1 ↔ sides = 1 := by simp [← BitVec.toNat_inj]
  have h2 : sides.toNat = 2 ↔ sides = 2 := by simp [← BitVec.toNat_inj]
  have h0 : offset.toNat = 0 ↔ offset = 0 := by simp [← BitVec.toNat_inj]
  unfold sidesFit
  by_cases hs : sides = 1
  · subst hs
    rw [if_pos (h1.mpr rfl), beq_iff_eq, h0]
    simp
  · rw [if_neg (h1.not.mpr hs)]
    simp only [Bool.and_eq_true, beq_iff_eq, bne_iff_ne, decide_eq_true_eq, h2, hs, false_and, false_or, and_assoc,
      Nat.pos_iff_ne_zero]

/-- What the Job Table makes of the next complete image. -/
theorem imageCompleted_spooling (h : j.state = .spooling) (he : j.earlyStart = false) :
    imageCompleted j s = (s.modJob j.num (fun j => { j with complete := j.complete + 1 }), []) := by
  simp only [imageCompleted, h, he, if_true]
  rfl

theorem imageCompleted_early (h : j.state = .spooling) (he : j.earlyStart = true) :
    imageCompleted j s = leaveSpooling j (s.modJob j.num (fun j => { j with complete := j.complete + 1 })) := by
  simp only [imageCompleted, h, he, if_true]

theorem imageCompleted_later (h : j.state ≠ .spooling) :
    imageCompleted j s = limitRaised j.num (s.modJob j.num (fun j => { j with complete := j.complete + 1 })) := by
  simp only [imageCompleted, if_neg h]

/-- One more complete image raises the limit of a job whose data is open (R39). -/
theorem limit_lt_complete_succ (ho : j.dataClosed = false) (hc : 0 < j.copies) :
    j.limit < ({ j with complete := j.complete + 1 } : Job).limit := by
  simp only [Job.limit, ho, Bool.false_eq_true, if_false, Nat.mul_add, Nat.mul_one]
  split <;> omega

/-- A job below its limit is not STARVED. -/
theorem runState_running (h : j.cursor ≠ j.limit) : j.runState = .running := by
  simp [Job.runState, h]

/-- A STARVED job with a position below its limit is to run (R41). -/
theorem starvedTest_runs {r : JobReason} (hj : s.job? n = some j) (hst : j.state = .starved) (hrun : j.runState = .running) :
    starvedTest n r s = setJobState n .running r s := by
  rw [starvedTest, hj, ← hrun]
  exact if_pos (.inr hst)

/-- A run job that is not RUNNING has no sheet dispatched (R101). -/
theorem dispatch_notRunning (h : ∀ j, s.runJob p = some j → j.state ≠ .running) : dispatch p s = (s, []) := by
  unfold dispatch
  split
  · rfl
  · next j hj => simp [dispatchReady, h j hj]

/-- What follows for a job that is neither RUNNING nor STARVED comes to nothing. -/
theorem limitRaised_idle (hj : s.job? n = some j) (hst : j.state ≠ .running ∧ j.state ≠ .starved) :
    (limitRaised n s).1 = s ∧ ∀ k ∈ (limitRaised n s).2, ∀ u : State, u.job? n = s.job? n →
      (∀ q, u.port q = s.port q) → runTask k u = (u, []) := by
  have hs : starvedTest n .data s = s := by
    simp only [starvedTest, hj]
    exact if_neg (by tauto)
  simp only [limitRaised, hs, true_and]
  intro k hk u hu hp
  split at hk
  · next p hr =>
    obtain rfl := List.mem_singleton.mp hk
    refine dispatch_notRunning fun j' hj' => ?_
    have hrun : (u.port p).run = some n := by rw [hp]; exact runPort_some hr
    rw [State.runJob, hrun, Option.bind_some, hu, hj] at hj'
    cases hj'
    exact hst.1
  · cases hk

section End

variable {sides offset : Nat}

theorem doSheetEnd_closed (hj : s.job? n = some j) (ht : j.takesData = false) :
    doSheetEnd n sides offset s = .error .wrongState := by
  rw [doSheetEnd, withJob_of_some hj, ht]
  rfl

variable (hj : s.job? n = some j) (ht : j.takesData = true)

include hj ht

theorem doSheetEnd_noImage (hb : s.smm.building? n = none) : doSheetEnd n sides offset s = .error .noImage := by
  rw [doSheetEnd, withJob_of_some hj, ht, hb]
  rfl

theorem doSheetEnd_badField (hb : s.smm.building? n = some x) (hf : sidesFit j x sides offset = false) :
    doSheetEnd n sides offset s = .error .badField := by
  rw [doSheetEnd, withJob_of_some hj, ht, hb]
  simp only [hf]
  rfl

theorem doSheetEnd_completes (hb : s.smm.building? n = some x) (hf : sidesFit j x sides offset = true) {u : State}
    {ts : List Task} (h : imageCompleted j (completeImage x sides offset s) = (u, ts)) : doSheetEnd n sides offset s
      = .ok { contents := be16 x.index ++ be16 (j.complete + 1), st := u, tasks := ts ++ [.settle] } := by
  rw [doSheetEnd, withJob_of_some hj, ht, hb]
  simp only [hf, h]
  rfl

end End

/-- An answer whose tasks ahead of the evaluation do nothing. -/
theorem AnswersThen.settled {i : Instr} {f : Frame} {contents : List Byte} {pre : List Task} {w : State}
    (h : AnswersThen i s f contents (pre ++ [.settle]) w)
    (hidle : ∀ k ∈ pre, runTask k (answer f .ok contents w) = (answer f .ok contents w, [])) :
    AnswersSettled i s f contents w := by
  rwa [AnswersThen, cascade_idle_settle hidle] at h

/-- Settles O31. -/
theorem sheetEndCompletes : Obligations.SheetEndCompletes := by
  intro tag job sides offset s htag ht hpart n i f
  have hq : Parted s.smm := spoolPartition_iff.mp hpart
  have hask : Asks i s f (doSheetEnd n sides.toNat offset.toNat s.taking) :=
    asks (h := fun _ => doSheetEnd n sides.toNat offset.toNat) htag ht rfl rfl ⟨Nat.le_refl 7, Nat.le_refl 7⟩
  refine ⟨fun hnone => hask.refused (withJob_of_none ((job?_taking n).trans hnone) _), fun j hj => ?_⟩
  have hjob : s.taking.job? n = some j := (job?_taking n).trans hj
  have hnum : j.num = n := job?_num hj
  refine ⟨fun hclosed => hask.refused (doSheetEnd_closed hjob
    (Bool.eq_false_iff.mpr fun h => hclosed ((takesData_iff j).mp h))), fun hopen hall => hask.refused
    (doSheetEnd_noImage hjob ((takesData_iff j).mpr hopen) (building?_none hall)), ?_⟩
  intro hopen x hx hxj hxc fits
  have ho : j.dataClosed = false := hopen.1
  have hopen : j.takesData = true := (takesData_iff j).mpr hopen
  have hb : s.taking.smm.building? n = some x := dataImage_building hq hx hxj hxc
  refine ⟨fun hno => hask.refused (doSheetEnd_badField hjob hopen hb
    (Bool.eq_false_iff.mpr fun h => hno (sidesFit_iff.mp h))), ?_⟩
  intro hfits done t ok then_ more
  have ht : completeImage x sides.toNat offset.toNat s.taking = t := by
    have h2 : sides.toNat = 2 ↔ sides = 2 := by simp [← BitVec.toNat_inj]
    have himages := updateImage_eq_map hq.records hx (u := fun x => { x with
      complete := true, sides := some sides.toNat, offset := if sides.toNat = 2 then some offset.toNat else none })
      (f := fun _ => done) (by simp only [done, h2])
    show ({ s.taking with smm := { s.smm with images := updateImage x.record _ s.smm.images } } : State) = t
    rw [himages]
  have htjob : t.job? n = some j := hjob
  have hyes {u : State} {ts : List Task} (h : imageCompleted j t = (u, ts)) : then_ (ts ++ [.settle]) u :=
    hask.followed (doSheetEnd_completes hjob hopen hb (sidesFit_iff.mpr hfits) (by rw [ht, h]))
  have hmore : (t.modJob n (fun j => { j with complete := j.complete + 1 })).job? n
      = some { j with complete := j.complete + 1 } := job?_modJob_self (fun _ => rfl) htjob
  have htqueue : t.queue j.dest = s.queue j.dest := rfl
  have htclock : t.mlc.clock = s.mlc.clock := rfl
  have htport (q : PortNo) : t.port q = s.port q := rfl
  clear_value t
  have hrun {p : PortNo} (hp : s.runsAt p n) : t.runPort n = some p := runPort_eq fun q => by rw [htport]; exact hp q
  have haway (hs : s.slotless n) : t.runPort n = none := runPort_none fun q => by rw [htport]; exact (hs q).1
  refine ⟨fun hst => ?stays, fun hst he hs hh => ?held, fun hst he hs hh hpin => ?queued,
    fun p hst hp hcur hcop => ?starved, fun p hst hp hcur => ?running⟩
  case stays =>
    rcases hst with ⟨hst, he⟩ | hst
    · exact (hyes (ts := []) ((imageCompleted_spooling hst he).trans (by rw [hnum]))).settled nofun
    · simp only [List.mem_cons, List.not_mem_nil, or_false] at hst
      have hidle := limitRaised_idle hmore (by rcases hst with h | h | h | h <;> simp [h])
      have hdo := hyes (ts := (limitRaised n (t.modJob n (fun j => { j with complete := j.complete + 1 }))).2)
        (u := t.modJob n (fun j => { j with complete := j.complete + 1 }))
        ((imageCompleted_later (by rcases hst with h | h | h | h <;> simp [h])).trans
          (by rw [hnum]; exact Prod.ext hidle.1 rfl))
      exact hdo.settled fun k hk => hidle.2 k hk _ rfl fun q => rfl
  case held =>
    refine (hyes (ts := []) ((imageCompleted_early hst he).trans ?_)).settled nofun
    rw [hnum]
    exact leaveSpooling_held (f := fun j => { j with complete := j.complete + 1 }) (fun _ => rfl) htjob hst hh (haway hs)
  case queued =>
    refine hyes (ts := [.offer n]) ((imageCompleted_early hst he).trans ?_)
    have hqueue := joinQueue_dest (r := .data) (f := fun j => { j with complete := j.complete + 1 }) (fun _ => rfl) htjob
      (by simp [hst]) hpin (haway hs)
    have hspool := leaveSpooling_queued (f := fun j => { j with complete := j.complete + 1 }) (fun _ => rfl) htjob hh
    have hstate : more j .spooling = { j with complete := j.complete + 1 } := by simp only [more, ← hst]
    have hu : t.modJob n (fun j => { more j .spooling with queueEntry := some s.mlc.clock })
        = t.modJob n (fun j => { j with complete := j.complete + 1, queueEntry := some t.clock }) :=
      modJob_congr (job?_ne_zero htjob) htjob (by rw [hstate, ← htclock]; rfl)
    rw [hnum, hu, hstate, ← htqueue, ← htclock]
    exact hspool.trans hqueue
  case starved =>
    refine hyes (ts := [.dispatch p]) ((imageCompleted_later (by simp [hst])).trans ?_)
    have hlimit := limit_lt_complete_succ ho hcop
    have hstate : ({ j with complete := j.complete + 1 } : Job).runState = .running :=
      runState_running (by show j.cursor ≠ _; omega)
    have htest : starvedTest n .data (t.modJob n (fun j => { j with complete := j.complete + 1 }))
        = (t.modJob n (fun j => more j .running)).noteJob n .data := by
      have hset := setJobState_running (r := .data) hmore (by simp [hst])
      rw [modJob_modJob (by simp)] at hset
      exact (starvedTest_runs hmore hst hstate).trans hset
    rw [hnum]
    exact limitRaised_run htest ((runPort_congr fun q => by simp [State.port]).trans (hrun hp))
  case running =>
    refine hyes (ts := [.dispatch p]) ((imageCompleted_later (by simp [hst])).trans ?_)
    have hlimit : j.cursor ≠ ({ j with complete := j.complete + 1 } : Job).limit := by
      simp only [Job.limit, ho, Bool.false_eq_true, if_false, Nat.mul_add, Nat.mul_one] at hcur ⊢
      split <;> simp_all <;> omega
    have hsame : t.modJob n (fun j => more j .running) = t.modJob n (fun j => { j with complete := j.complete + 1 }) :=
      modJob_congr (job?_ne_zero htjob) htjob (by simp only [more, ← hst])
    rw [hnum, hsame]
    exact limitRaised_run (starvedTest_running hmore (runState_running hlimit) hst) (hrun hp)

end Sys2Proof.Machine
end

section
/-! PROOF. The part-wide port requests and the destination requests (R28 to R30, R56 to R59). -/

namespace Sys2Proof.Machine

variable {s : State} {n : Nat}

/-! ### PORT_QUERY and PORT_SET for port 16 (R28 to R30, R156) -/

theorem flag?_some {k : Nat} (h : k ≤ 1) : ∃ b, flag? k = some b := by
  interval_cases k
  · exact ⟨false, rfl⟩
  · exact ⟨true, rfl⟩

theorem doPartWideQuery_reports {clear : Nat} (h : clear ≤ 1) : doPartWideQuery clear s = report s s.partReport := by
  obtain ⟨b, hb⟩ := flag?_some h
  exact field_some hb _

theorem doPartWideSet_badField {reserve threshold escalation zero1 zero2 : Nat} (hs : s.ss.saving = none)
    (h : 4096 < reserve ∨ zero1 ≠ 0 ∨ zero2 ≠ 0) :
    doPartWideSet reserve threshold escalation zero1 zero2 s = .error .badField := by
  rw [doPartWideSet, unlessSaving_of_none hs, if_pos h]

theorem doPartWideSet_accepts {reserve threshold escalation : Nat} (hs : s.ss.saving = none) (h : reserve ≤ 4096) :
    doPartWideSet reserve threshold escalation 0 0 s = .ok { st := evalHorn (evalSpoolLow { s with cfg := { s.cfg with
      rushReserve := reserve, lowSpool := threshold, escalation := escalation } }) } := by
  rw [doPartWideSet, unlessSaving_of_none hs, if_neg (by omega)]
  rfl

/-- SPOOL_LOW is told to the Alert Unit when it changes (R30). -/
theorem evalSpoolLow_same (h : s.spoolLowNow = s.smm.low) : evalSpoolLow s = s := if_pos h

theorem evalSpoolLow_on (h : s.spoolLowNow = true) (hl : s.smm.low = false) :
    evalSpoolLow s = alertOn 112 (some s.smm.free.length) { s with smm := { s.smm with low := true } } := by
  rw [evalSpoolLow, h, hl]
  rfl

theorem evalSpoolLow_ends (h : s.spoolLowNow = false) (hl : s.smm.low = true) :
    evalSpoolLow s = alertOff 112 { s with smm := { s.smm with low := false } } := by
  rw [evalSpoolLow, h, hl]
  rfl

/-- Settles O32. -/
theorem partWideRequests : Obligations.PartWideRequests := by
  intro tag s htag ht
  refine ⟨?query, ?set⟩
  case query =>
    intro clear f
    have ha : Asks (.portQueryPartWide tag clear) s f (doPartWideQuery clear.toNat s.taking) :=
      asks (h := fun _ => doPartWideQuery clear.toNat) htag ht rfl rfl ⟨Nat.le_refl 2, Nat.le_refl 2⟩
    refine ⟨fun hc => ?_, fun hc => ha.refused (field_none (flag?_eq_none hc) _)⟩
    have hreport : s.taking.partReport = be32 (blockCount s.smm.sizeClass) ++ be32 s.smm.free.length
        ++ be16 s.smm.images.length ++ be16 s.cfg.rushReserve ++ be16 s.cfg.lowSpool
        ++ [BitVec.ofNat 8 s.cfg.escalation, if s.smm.low then 1 else 0] := by
      show s.partReport = _
      simp only [State.partReport, be8, bit]
      cases s.smm.low <;> simp
    rw [← hreport]
    exact ha.answers (doPartWideQuery_reports hc)
  case set =>
    intro reserve threshold escalation zero1 zero2 hs i f t now
    have ha : Asks i s f (doPartWideSet reserve.toNat threshold.toNat escalation.toNat zero1.toNat zero2.toNat s.taking) :=
      asks (h := fun _ => doPartWideSet reserve.toNat threshold.toNat escalation.toNat zero1.toNat zero2.toNat) htag ht rfl
        rfl ⟨Nat.le_refl 8, Nat.le_refl 8⟩
    refine ⟨fun hbad => ha.refused (doPartWideSet_badField hs ?_), fun hr h1 h2 => ?_⟩
    · simpa [← BitVec.toNat_inj] using hbad
    · subst h1 h2
      have hok : Answers i s f .ok [] (evalHorn (evalSpoolLow t)) := ha.answers (doPartWideSet_accepts hs hr)
      have hnow : t.spoolLowNow = now := by
        show (threshold.toNat != 0 && decide (s.smm.free.length < threshold.toNat)) = now
        simp only [now, Bool.decide_and, ne_eq, decide_not, bne]
        rfl
      refine ⟨fun h => ?_, fun h hl => ?_, fun h hl => ?_⟩
      · rw [evalSpoolLow_same (s := t) (hnow.trans h)] at hok
        exact hok
      · rw [evalSpoolLow_on (s := t) (hnow.trans h) hl] at hok
        exact hok
      · rw [evalSpoolLow_ends (s := t) (hnow.trans h) hl] at hok
        exact hok

/-! ### Member lists and labels (Table 4-2, R56) -/

/-- The ports a member list names, each once, 255 in the places after them. -/
def ListsPorts (count : Nat) (bytes : List Byte) (ports : List PortNo) : Prop :=
  count = ports.length ∧ ports.length ≤ 8 ∧ ports.Nodup
    ∧ bytes = ports.map (fun p => BitVec.ofNat 8 p.val) ++ List.replicate (8 - ports.length) 255

/-- A byte names a port when it is that port's. -/
theorem portNo?_eq_some {b : Byte} {p : PortNo} : portNo? b.toNat = some p ↔ b = BitVec.ofNat 8 p.val := by
  have hp : p.val < 16 := p.isLt
  unfold portNo?
  constructor
  · intro h
    split at h
    · cases h; simp
    · cases h
  · rintro rfl
    have hv : (BitVec.ofNat 8 p.val).toNat = p.val := by
      rw [BitVec.toNat_ofNat, Nat.mod_eq_of_lt (by omega)]
    rw [dif_pos (by omega)]
    exact congrArg some (Fin.ext hv)

/-- Bytes that all name ports are the ports' bytes. -/
theorem map_portNo?_eq_some {l : List Byte} {ports : List PortNo} :
    l.map (fun b => portNo? b.toNat) = ports.map some ↔ l = ports.map (fun p => BitVec.ofNat 8 p.val) := by
  induction l generalizing ports with
  | nil => cases ports <;> simp
  | cons b l ih => cases ports <;> simp [ih, portNo?_eq_some]

/-- A list of options none of which is absent is one of values. -/
theorem eq_map_some {α : Type} {l : List (Option α)} (h : l.any Option.isNone = false) : l = (l.filterMap id).map some := by
  induction l with
  | nil => rfl
  | cons x l ih =>
    rw [List.any_cons, Bool.or_eq_false_iff] at h
    have hx : x ≠ none := by rintro rfl; simp at h
    obtain ⟨a, rfl⟩ := Option.ne_none_iff_exists'.mp hx
    rw [List.filterMap_cons_some (f := id) rfl, List.map_cons, ← ih h.2]

theorem eq_replicate_of_any {l : List Byte} (h : l.any (fun b => b != 255) = false) : l = List.replicate l.length 255 :=
  List.eq_replicate_of_mem fun b hb => by simpa using List.any_eq_false.mp h b hb

/-- The member list read is the one the bytes list. -/
theorem lists_of_members? {count : Nat} {bytes : List Byte} (hl : bytes.length = 8) {ports : List PortNo}
    (h : members? count bytes = some ports) : ListsPorts count bytes ports := by
  unfold members? at h
  dsimp only at h
  split at h
  · cases h
  next hcount =>
    split at h
    · cases h
    next hany =>
      split at h
      · next hnd =>
        cases h
        rw [Bool.or_eq_true, not_or, Bool.not_eq_true, Bool.not_eq_true] at hany
        obtain ⟨hnames, hpad⟩ := hany
        have hmap := eq_map_some hnames
        have hfront := map_portNo?_eq_some.mp hmap
        have hlen := congrArg List.length hfront
        rw [List.length_take, List.length_map] at hlen
        have hback := eq_replicate_of_any hpad
        rw [List.length_drop, hl] at hback
        refine ⟨by omega, by omega, hnd, ?_⟩
        rw [← hfront, ← hlen, show 8 - min count bytes.length = 8 - count by omega, ← hback, List.take_append_drop]
      · cases h

theorem members?_of_lists {count : Nat} {bytes : List Byte} {ports : List PortNo} (h : ListsPorts count bytes ports) :
    members? count bytes = some ports := by
  obtain ⟨rfl, h8, hnd, rfl⟩ := h
  have hlen : ports.length = (ports.map fun p : PortNo => (BitVec.ofNat 8 p.val : Byte)).length := by simp
  have hfront : ((ports.map fun p : PortNo => (BitVec.ofNat 8 p.val : Byte)) ++ List.replicate (8 - ports.length) 255).take ports.length
      = ports.map fun p : PortNo => BitVec.ofNat 8 p.val := List.take_left' hlen.symm
  have hback : ((ports.map fun p : PortNo => (BitVec.ofNat 8 p.val : Byte)) ++ List.replicate (8 - ports.length) 255).drop ports.length
      = List.replicate (8 - ports.length) 255 := List.drop_left' hlen.symm
  have hnames : (ports.map fun p : PortNo => (BitVec.ofNat 8 p.val : Byte)).map (fun b => portNo? b.toNat) = ports.map some :=
    map_portNo?_eq_some.mpr rfl
  have hfm : (ports.map some).filterMap id = ports := by simp [List.filterMap_map]
  have hsound : ((ports.map some).any Option.isNone || (List.replicate (8 - ports.length) (255 : Byte)).any
      (fun b => b != 255)) = false := by simp
  unfold members?
  rw [if_neg (Nat.not_lt.mpr h8)]
  simp only [hfront, hback, hnames, hfm, hsound, if_pos hnd]
  rfl

/-- The text a label field spells: printable characters, and 0 bytes behind them. -/
def SpellsLabel (bytes text : List Byte) : Prop :=
  (∀ b ∈ text, 0x20 ≤ b.toNat ∧ b.toNat ≤ 0x7E) ∧ text.length ≤ 16 ∧ bytes = text ++ List.replicate (16 - text.length) 0

theorem printable_iff {b : Byte} : printable b = true ↔ 0x20 ≤ b.toNat ∧ b.toNat ≤ 0x7E := by simp [printable]

theorem label?_eq_some {bytes text : List Byte} (hl : bytes.length = 16) :
    label? bytes = some text ↔ SpellsLabel bytes text := by
  constructor
  · intro h
    unfold label? at h
    dsimp only at h
    split at h
    · next hok =>
      cases h
      rw [Bool.and_eq_true] at hok
      obtain ⟨hprint, hzero⟩ := hok
      obtain ⟨post, hpost⟩ := List.takeWhile_prefix (l := bytes) (fun b => b != 0)
      have hsplit : bytes.takeWhile (fun b => b != 0) ++ bytes.drop (bytes.takeWhile (fun b => b != 0)).length = bytes := by
        have hdrop : bytes.drop (bytes.takeWhile (fun b => b != 0)).length = post := by
          conv => lhs; arg 2; rw [← hpost]
          exact List.drop_left
        rw [hdrop, hpost]
      have hlen := congrArg List.length hsplit
      rw [List.length_append, hl, List.length_drop, hl] at hlen
      have hpad : bytes.drop (bytes.takeWhile (fun b => b != 0)).length
          = List.replicate (16 - (bytes.takeWhile (fun b => b != 0)).length) 0 := by
        refine List.eq_replicate_iff.mpr ⟨by rw [List.length_drop, hl], fun b hb => ?_⟩
        simpa using List.all_eq_true.mp hzero b hb
      exact ⟨fun b hb => printable_iff.mp (List.all_eq_true.mp hprint b hb), by omega, by rw [← hpad, hsplit]⟩
    · cases h
  · rintro ⟨hprint, h16, rfl⟩
    have htext : (text ++ List.replicate (16 - text.length) 0).takeWhile (fun b => b != 0) = text := by
      rw [List.takeWhile_append_of_pos fun b hb => ?_]
      · cases 16 - text.length <;> simp [List.replicate_succ]
      · have := hprint b hb
        simp only [bne_iff_ne]
        rintro rfl
        simp at this
    simp only [label?, htext, List.drop_left]
    refine if_pos ?_
    rw [Bool.and_eq_true, List.all_eq_true, List.all_eq_true]
    exact ⟨fun b hb => printable_iff.mpr (hprint b hb), fun b hb => by simpa using List.eq_of_mem_replicate hb⟩

/-! ### ROUTE_MASK, ROUTE_QUERY and ROUTE_SET (R56 to R59) -/

section RouteSet

variable {mask : Option RouteMask} {dest flags count : Nat} {members label : List Byte}

theorem doRouteSet_of (hs : s.ss.saving = none) : doRouteSet mask dest flags count members label s
    = field (destNo? dest) fun d => if 4 ≤ flags then .error .badField
      else field (routedRecord (mask.getD fullMask) (s.dest d) flags count members label) fun r =>
        accept (s.setDest d r) (queueOffer (s.setDest d r) d ++ [.settle]) := by
  rw [doRouteSet, unlessSaving_of_none hs]

theorem doRouteSet_outOfRange (hs : s.ss.saving = none) (h : 31 < dest ∨ 3 < flags) :
    doRouteSet mask dest flags count members label s = .error .badField := by
  rw [doRouteSet_of hs]
  refine field_badField fun d hd => if_pos ?_
  have := destNo?_lt hd
  omega

theorem doRouteSet_noRecord (hs : s.ss.saving = none)
    (h : ∀ old, routedRecord (mask.getD fullMask) old flags count members label = none) :
    doRouteSet mask dest flags count members label s = .error .badField := by
  rw [doRouteSet_of hs]
  refine field_badField fun d hd => ?_
  split
  · rfl
  · exact field_none (h _) _

theorem doRouteSet_accepts {d : Fin 32} {r : Dest} (hs : s.ss.saving = none) (hf : flags ≤ 3)
    (h : routedRecord (mask.getD fullMask) (s.dest d) flags count members label = some r) :
    doRouteSet mask d.val flags count members label s
      = .ok { st := s.setDest d r, tasks := queueOffer (s.setDest d r) d ++ [.settle] } := by
  rw [doRouteSet_of hs, field_some (destNo?_val d), if_neg (by omega), field_some h]
  rfl

variable {m : RouteMask} {old : Dest}

theorem routedRecord_noMembers (hm : m.members = true) (h : members? count members = none) :
    routedRecord m old flags count members label = none := by
  simp only [routedRecord, hm, h, if_true]

theorem routedRecord_noLabel (hm : m.label = true) (h : label? label = none) :
    routedRecord m old flags count members label = none := by
  simp only [routedRecord, hm, h, if_true]
  split <;> simp_all

theorem routedRecord_some {ports : List PortNo} {text : List Byte}
    (hp : (if m.members then members? count members else some old.members) = some ports)
    (ht : (if m.label then label? label else some old.label) = some text) :
    routedRecord m old flags count members label = some {
      label := text, members := ports
      enabled := if m.enabled then bitOf flags 0 else old.enabled
      insert := if m.insert then bitOf flags 1 else old.insert } := by
  simp only [routedRecord, hp, ht]

end RouteSet

/-- Offers that find no usable port place nothing (R64, R73). -/
theorem offers_idle (h : ∀ p, (s.port p).usable = false) (l : List Nat) : ∀ k ∈ l.map Task.offer, runTask k s = (s, []) := by
  intro k hk
  obtain ⟨n, -, rfl⟩ := List.mem_map.mp hk
  exact offer_nothing fun j _ => .inr fun p _ => h p

theorem doRouteMask_badField {mask : Nat} (h : mask = 0 ∨ 15 < mask) : doRouteMask mask s = .error .badField :=
  if_pos (by omega)

theorem doRouteMask_holds {mask : Nat} (h1 : 1 ≤ mask) (h2 : mask ≤ 15) : doRouteMask mask s
    = .ok { st := { s with dt := { s.dt with routeMask := some {
        members := bitOf mask 0, label := bitOf mask 1, enabled := bitOf mask 2, insert := bitOf mask 3 } } } } :=
  if_neg (by omega)

theorem bitOf_byte (b : Byte) (i : Nat) : bitOf b.toNat i = b.getLsbD i := rfl

/-- Settles O33. -/
theorem routeRequests : Obligations.RouteRequests := by
  intro tag s htag ht
  refine ⟨fun mask => ?mask, fun dest => ?query, ?set⟩
  case mask =>
    have ha : Asks (.routeMask tag mask) s ⟨0x19, tag, [mask]⟩ (doRouteMask mask.toNat s.taking) :=
      asks (h := fun _ => doRouteMask mask.toNat) htag ht rfl rfl ⟨Nat.le_refl 1, Nat.le_refl 1⟩
    exact ⟨fun h1 h2 => ha.answers (doRouteMask_holds h1 h2), fun h => ha.refused (doRouteMask_badField h)⟩
  case query =>
    have ha : Asks (.routeQuery tag dest) s ⟨0x1A, tag, [dest]⟩ (doRouteQuery dest.toNat s.taking) :=
      asks (h := fun _ => doRouteQuery dest.toNat) htag ht rfl rfl ⟨Nat.le_refl 1, Nat.le_refl 1⟩
    refine ⟨fun d hd => ha.answers ?_, fun h => ha.refused (field_none (destNo?_eq_none h) _)⟩
    rw [hd]
    refine (field_some (destNo?_val d) _).trans ?_
    rw [dest_taking, queue_taking]
    simp only [Dest.flags, flagByte_pair, padMembers, padLabel, be8, bit, List.append_assoc, List.cons_append, List.nil_append, report,
      mul_ite, mul_one, mul_zero]
  case set =>
    intro dest flags count members label hs i f m lists spells
    have ha : Asks i s f (doRouteSet s.dt.routeMask dest.toNat flags.toNat count.toNat members.toList label.toList
        s.taking) :=
      asks (h := fun mask => doRouteSet mask dest.toNat flags.toNat count.toNat members.toList label.toList) htag ht rfl rfl
        (by simp)
    have hlists {ports : List PortNo} (h : members? count.toNat members.toList = some ports) : lists ports :=
      lists_of_members? (by simp) h
    have hspells {text : List Byte} : label? label.toList = some text ↔ spells text := label?_eq_some (by simp)
    refine ⟨fun h => ha.refused (doRouteSet_outOfRange hs h), fun hm hno => ha.refused (doRouteSet_noRecord hs fun old =>
      routedRecord_noMembers hm (Option.eq_none_iff_forall_ne_some.mpr fun ports h => hno ports (hlists h))),
      fun hm hno => ha.refused (doRouteSet_noRecord hs fun old =>
        routedRecord_noLabel hm (Option.eq_none_iff_forall_ne_some.mpr fun text h => hno text (hspells.mp h))), ?_⟩
    intro d ports text hd hf hports htext r t
    have hrecord : routedRecord (s.dt.routeMask.getD fullMask) (s.taking.dest d) flags.toNat count.toNat members.toList
        label.toList = some r := by
      rw [dest_taking]
      refine routedRecord_some ?_ ?_
      · show (if m.members then _ else _) = _
        cases hm : m.members with
        | true =>
          rw [hm] at hports
          exact members?_of_lists hports
        | false =>
          rw [hm] at hports
          exact congrArg some hports.symm
      · show (if m.label then _ else _) = _
        cases hm : m.label with
        | true =>
          rw [hm] at htext
          exact hspells.mpr htext
        | false =>
          rw [hm] at htext
          exact congrArg some htext.symm
    rw [hd] at ha
    have hok : AnswersThen i s f [] (queueOffer t d ++ [.settle]) t := ha.followed (doRouteSet_accepts hs hf hrecord)
    have hoffer : queueOffer t d = if r.enabled then (s.queue d).map .offer else [] := by
      have hdest : t.dest d = r := by simp [t]
      rw [queueOffer, hdest]
      rfl
    rw [hoffer] at hok
    refine ⟨fun hen => ?_, fun hidle => hok.settled ?_⟩
    · rwa [if_pos hen] at hok
    · rcases hidle with h | h | h
      · rw [h]; nofun
      · rw [h]; split <;> nofun
      · split
        · exact offers_idle (s := answer f .ok [] t) h _
        · nofun

end Sys2Proof.Machine
end

section
/-! PROOF. What follows from an event is never cut short: every task run lowers the weight of what remains (log 16). -/

namespace Sys2Proof.Machine

variable {s t : State} {p q : PortNo} {n m : Nat} {r : JobReason} {j : Job}

/-! ### What leaves the slots of a port alone -/

/-- The slots of a port, with its pinned queue. -/
def Port.slots (x : Port) : Option Nat × Option Suspended × Option Nat × List Nat := (x.run, x.susp, x.inc, x.pinnedQ)

theorem slots_modPort {f : Port → Port} (hf : ∀ x, (f x).slots = x.slots) :
    ((s.modPort p f).port q).slots = (s.port q).slots := by
  rw [port_modPort]
  split
  · next h => rw [hf, h]
  · rfl

@[simp] theorem slots_evalLamps : ((evalLamps p s).port q).slots = (s.port q).slots := by
  obtain ⟨l, h⟩ := port_evalLamps s p q
  rw [h]; rfl

@[simp] theorem slots_condOn {k : AlertKind} {d : Option Nat} : ((condOn p k d s).port q).slots = (s.port q).slots := by
  obtain ⟨l, c, h⟩ := port_condOn s p q k d
  rw [h]; rfl

@[simp] theorem slots_condOff {k : AlertKind} : ((condOff p k s).port q).slots = (s.port q).slots := by
  obtain ⟨l, c, h⟩ := port_condOff s p q k
  rw [h]; rfl

@[simp] theorem slots_evalMedia : ((evalMedia p s).port q).slots = (s.port q).slots := by
  obtain ⟨l, c, h⟩ := port_evalMedia s p q
  rw [h]; rfl

theorem slots_of_ports (h : t.ports = s.ports) : (t.port q).slots = (s.port q).slots := by simp only [State.port, h]

@[simp] theorem slots_noteJob : ((s.noteJob n r).port q).slots = (s.port q).slots := slots_of_ports (by simp)

@[simp] theorem slots_notePort : ((s.notePort p).port q).slots = (s.port q).slots := slots_of_ports (by simp)

@[simp] theorem slots_send {f : Frame} : ((s.send p f).port q).slots = (s.port q).slots := slots_of_ports (by simp)

@[simp] theorem slots_modJob {f : Job → Job} : ((s.modJob n f).port q).slots = (s.port q).slots := slots_of_ports (by simp)

@[simp] theorem slots_freeImages : ((freeImages n s).port q).slots = (s.port q).slots := by
  obtain ⟨l, h⟩ := port_evalSpoolLow (s := dropImages n s) q
  calc ((evalSpoolLow (dropImages n s)).port q).slots = ((dropImages n s).port q).slots := by rw [h]; rfl
    _ = (s.port q).slots := rfl

@[simp] theorem slots_clearBusy : ((clearBusy p s).port q).slots = (s.port q).slots := slots_modPort fun _ => rfl

@[simp] theorem slots_setJobState {st : JobState} : ((setJobState n st r s).port q).slots = (s.port q).slots := by
  unfold setJobState
  dsimp only
  repeat' split
  all_goals simp

@[simp] theorem slots_starvedTest : ((starvedTest n r s).port q).slots = (s.port q).slots := by
  unfold starvedTest
  repeat' split
  · rfl
  · simp
  · rfl

@[simp] theorem slots_refreshWindow : ((refreshWindow p s).port q).slots = (s.port q).slots := slots_modPort fun _ => rfl

@[simp] theorem slots_setLink {l : Link} : ((setLink p l s).port q).slots = (s.port q).slots := by
  unfold setLink
  split
  · rfl
  · rw [slots_refreshWindow, slots_notePort, slots_modPort (by intro; rfl)]

@[simp] theorem slots_setCondition {a b c : Bool} {k : Byte} :
    ((setCondition p a b c k s).port q).slots = (s.port q).slots := by
  unfold setCondition
  dsimp only
  split
  · rfl
  · rw [slots_notePort, slots_modPort (by intro; rfl)]

@[simp] theorem slots_clearUp : ((clearUp p s).port q).slots = (s.port q).slots := by
  unfold clearUp
  dsimp only
  rw [slots_modPort (by intro; rfl)]
  simp

@[simp] theorem slots_goDown : ((goDown p s).port q).slots = (s.port q).slots := by
  unfold goDown
  rw [slots_modPort (by intro; rfl), slots_setLink]

@[simp] theorem slots_enterWaking : ((enterWaking p s).port q).slots = (s.port q).slots := by
  unfold enterWaking
  rw [slots_send, slots_modPort (by intro; rfl), slots_setLink]

@[simp] theorem slots_beginAttempt {k : Nat} : ((beginAttempt p k s).port q).slots = (s.port q).slots := by
  unfold beginAttempt
  rw [slots_send, slots_send, slots_modPort (by intro; rfl)]

@[simp] theorem slots_runIdleTimer : ((runIdleTimer p s).port q).slots = (s.port q).slots := by
  unfold runIdleTimer
  split <;> exact slots_modPort fun _ => rfl

@[simp] theorem slots_wakeTable : ((wakeTable p s).port q).slots = (s.port q).slots := by
  have hidle : (if q = p then { s.port q with idleTimer := none } else s.port q).slots = (s.port q).slots := by split <;> rfl
  have hoff : (if q = p then { s.port q with idleTimer := none, forceOff := true } else s.port q).slots
      = (s.port q).slots := by split <;> rfl
  unfold wakeTable leaveUpDown
  repeat' split
  all_goals simp [hidle, hoff]

@[simp] theorem slots_checkBusy : ((checkBusy p s).port q).slots = (s.port q).slots := by
  unfold checkBusy
  split
  · rfl
  · exact slots_clearBusy

@[simp] theorem slots_settle : ((settle s).port q).slots = (s.port q).slots :=
  settle_ind (P := fun t => (t.port q).slots = (s.port q).slots) (fun p t h => by simpa [settlePort] using h) rfl

@[simp] theorem slots_stallTail {d : Nat} : ((stallTail p d s).port q).slots = (s.port q).slots := by
  unfold stallTail
  dsimp only
  split <;> simp

/-! ### The weight of a state -/

/-- What a job in a run slot weighs. -/
def State.jobWeight (s : State) (n : Nat) : Nat :=
  match s.job? n with
  | none => 1
  | some j =>
    if j.state = .draining ∧ j.holds.isEmpty then
      if j.purpose = some .suspendInsert ∨ j.purpose = some .suspendHost then 4 else 60
    else 1

/-- What a port's slots weigh, when a job `n` in a run slot weighs `w n`. -/
def slotsWeight (w : Nat → Nat) (x : Option Nat × Option Suspended × Option Nat × List Nat) : Nat :=
  x.1.elim 0 w + 3 * x.2.1.isSome.toNat + 3 * x.2.2.1.isSome.toNat + 55 * x.2.2.2.length

/-- What the slots and queues of a state weigh, when a job `n` in a run slot weighs `w n`. -/
def State.load (s : State) (w : Nat → Nat) : Nat :=
  (allPorts.map fun p => slotsWeight w (s.port p).slots).sum + (allDests.map (fun d => 55 * (s.queue d).length)).sum

theorem slotWeight_eq (p : PortNo) : slotWeight s p = slotsWeight s.jobWeight (s.port p).slots := by
  have hslot (b : Bool) : (if b then 3 else 0) = 3 * b.toNat := by cases b <;> rfl
  unfold slotWeight slotsWeight Port.slots
  rw [← hslot, ← hslot]
  cases (s.port p).run <;> rfl

/-- The fuel of a cascade counts its tasks, and the slots and queues of the state. -/
theorem cascadeFuel_eq (ts : List Task) : cascadeFuel ts s = (ts.map Task.weight).sum + s.load s.jobWeight + 1 := by
  unfold cascadeFuel State.load
  rw [show slotWeight s = _ from funext fun p => slotWeight_eq p, Nat.add_assoc (ts.map Task.weight).sum]

theorem jobWeight_pos (n : Nat) : 1 ≤ s.jobWeight n := by
  unfold State.jobWeight
  repeat' split
  all_goals omega

theorem jobWeight_le (n : Nat) : s.jobWeight n ≤ 60 := by
  unfold State.jobWeight
  repeat' split
  all_goals omega

theorem jobWeight_congr (h : t.job? n = s.job? n) : t.jobWeight n = s.jobWeight n := by rw [State.jobWeight, h]; rfl

/-- A job that is not DRAINING weighs 1. -/
theorem jobWeight_eq_one (hj : s.job? n = some j) (h : j.state ≠ .draining) : s.jobWeight n = 1 := by
  simp [State.jobWeight, hj, h]

theorem job?_setJobState {st : JobState} : (setJobState n st r s).job? m
    = if m = n then (s.job? n).map (fun j => { j with state := st }) else s.job? m := by
  unfold setJobState
  split
  · next h => split <;> simp_all
  · next j h =>
    split
    · next hst =>
      subst hst
      split <;> simp_all
    · have hm : (s.modJob n fun j => { j with state := st }).job? m
          = if m = n then (s.job? n).map (fun j => { j with state := st }) else s.job? m := job?_modJob fun _ => rfl
      refine Eq.trans ?_ hm
      dsimp only
      repeat' split
      all_goals simp only [job?_clearBusy, job?_noteJob]

/-- A change of state to another than DRAINING makes no job weigh more. -/
theorem jobWeight_setJobState_le {st : JobState} {w : Nat → Nat} (hst : st ≠ .draining) (hw : ∀ m, 1 ≤ w m)
    (h : ∀ m, m ≠ n → s.jobWeight m ≤ w m) (m : Nat) : (setJobState n st r s).jobWeight m ≤ w m := by
  by_cases hm : m = n
  · subst hm
    refine le_trans (le_of_eq ?_) (hw m)
    unfold State.jobWeight
    rw [job?_setJobState, if_pos rfl]
    cases s.job? m <;> simp [hst]
  · rw [jobWeight_congr (job?_setJobState.trans (if_neg hm))]
    exact h m hm

theorem jobWeight_modJob_ne {f : Job → Job} (hf : ∀ j, (f j).num = j.num) (hm : m ≠ n) :
    (s.modJob n f).jobWeight m = s.jobWeight m :=
  jobWeight_congr ((job?_modJob hf).trans (if_neg hm))

/-! ### What a change of slots or queues weighs -/

variable {w w' : Nat → Nat}

theorem sum_map_le_add {α : Type} (l : List α) {f g : α → Nat} {k : Nat} (h : ∀ a, f a ≤ g a + k) :
    (l.map f).sum ≤ (l.map g).sum + l.length * k := by
  induction l with
  | nil => simp
  | cons a l ih =>
    have := h a
    simp only [List.map_cons, List.sum_cons, List.length_cons, Nat.succ_mul]
    omega

theorem sum_map_change {α : Type} {l : List α} (hl : l.Nodup) {a : α} (ha : a ∈ l) {f g : α → Nat}
    (h : ∀ b, b ≠ a → f b = g b) : (l.map f).sum + g a = (l.map g).sum + f a := by
  induction l with
  | nil => cases ha
  | cons x l ih =>
    obtain ⟨hx, hl⟩ := List.nodup_cons.mp hl
    simp only [List.map_cons, List.sum_cons]
    rcases List.mem_cons.mp ha with rfl | ha
    · rw [List.map_congr_left fun b hb => h b (by rintro rfl; exact hx hb)]
      omega
    · have := ih hl ha
      have := h x (by rintro rfl; exact hx ha)
      omega

theorem load_congr (h : ∀ q, (t.port q).slots = (s.port q).slots) (hd : t.dt = s.dt) : t.load w = s.load w := by
  simp only [State.load, h, State.queue, hd]

theorem load_mono (h : ∀ n, w n ≤ w' n) : s.load w ≤ s.load w' := by
  have hp (p : PortNo) : slotsWeight w (s.port p).slots ≤ slotsWeight w' (s.port p).slots + 0 := by
    unfold slotsWeight Port.slots
    cases (s.port p).run with
    | none => rfl
    | some n => simpa using h n
  have := sum_map_le_add allPorts hp
  unfold State.load
  omega

/-- If every job weighs `k` more, the state weighs at most 16 times that more, once for each port. -/
theorem load_add (k : Nat) : s.load (fun n => w n + k) ≤ s.load w + 16 * k := by
  have hp (p : PortNo) : slotsWeight (fun n => w n + k) (s.port p).slots ≤ slotsWeight w (s.port p).slots + k := by
    unfold slotsWeight Port.slots
    cases (s.port p).run with
    | none => simp
    | some n => simp; omega
  have hsum := sum_map_le_add allPorts hp
  rw [show allPorts.length = 16 by decide] at hsum
  unfold State.load
  omega

theorem load_modPort (f : Port → Port) : (s.modPort p f).load w + slotsWeight w (s.port p).slots
    = s.load w + slotsWeight w (f (s.port p)).slots := by
  have hp := sum_map_change (l := allPorts) (by decide) (mem_allPorts p)
    (f := fun q => slotsWeight w ((s.modPort p f).port q).slots) (g := fun q => slotsWeight w (s.port q).slots)
    fun q hq => by simp [hq]
  simp only [port_modPort, if_true] at hp
  have hd (d : Fin 32) : (s.modPort p f).queue d = s.queue d := by simp [State.queue]
  simp only [State.load, hd, port_modPort]
  omega

theorem load_setQueue (d : Fin 32) (l : List Nat) :
    (s.setQueue d l).load w + 55 * (s.queue d).length = s.load w + 55 * l.length := by
  have hd := sum_map_change (l := allDests) (by decide) (List.mem_finRange d)
    (f := fun e => 55 * ((s.setQueue d l).queue e).length) (g := fun e => 55 * (s.queue e).length)
    fun e he => by simp [he]
  simp only [queue_setQueue, if_true] at hd
  have hp (q : PortNo) : (s.setQueue d l).port q = s.port q := by simp [State.port]
  simp only [State.load, hp, queue_setQueue]
  omega

@[simp] theorem load_modJob {f : Job → Job} : (s.modJob n f).load w = s.load w := load_congr (by simp) (by simp)

@[simp] theorem load_setJobState {st : JobState} : (setJobState n st r s).load w = s.load w :=
  load_congr (by simp) (by simp)

@[simp] theorem load_starvedTest : (starvedTest n r s).load w = s.load w := load_congr (by simp) (by simp)

@[simp] theorem load_evalMedia : (evalMedia p s).load w = s.load w := load_congr (by simp) (by simp)

@[simp] theorem load_freeImages : (freeImages n s).load w = s.load w := load_congr (by simp) (by simp)

@[simp] theorem load_finished {l : List Nat} : ({ s with jt := { s.jt with finished := l } } : State).load w = s.load w :=
  load_congr (fun _ => rfl) rfl

/-- The weight of a state, jobs and all, from a bound on what its jobs weigh. -/
theorem load_le_of_jobs (h : ∀ m, t.jobWeight m ≤ w m) : t.load t.jobWeight ≤ t.load w := load_mono h

end Sys2Proof.Machine
end

section
/-! PROOF. Every task run lowers the weight of what remains, so that an act runs whole (log 16). -/

namespace Sys2Proof.Machine

variable {s t : State} {p q : PortNo} {n m : Nat} {r : JobReason} {j : Job} {w : Nat → Nat}

/-- What the tasks still to be run weigh. -/
def tasksWeight (ts : List Task) : Nat := (ts.map Task.weight).sum

/-- What the slots, queues and jobs of a state weigh. -/
def State.weight (s : State) : Nat := s.load s.jobWeight

theorem State.weight_le (h : ∀ m, s.jobWeight m ≤ w m) : s.weight ≤ s.load w := load_mono h

@[simp] theorem jobWeight_modPort {f : Port → Port} : (s.modPort p f).jobWeight m = s.jobWeight m := jobWeight_congr (by simp)
@[simp] theorem jobWeight_setQueue {d : Fin 32} {l : List Nat} : (s.setQueue d l).jobWeight m = s.jobWeight m :=
  jobWeight_congr (by simp)
@[simp] theorem jobWeight_evalMedia : (evalMedia p s).jobWeight m = s.jobWeight m := jobWeight_congr (by simp)
@[simp] theorem jobWeight_leaveRun : (leaveRun p s).jobWeight m = s.jobWeight m := jobWeight_congr (by simp)
@[simp] theorem jobWeight_freeImages : (freeImages n s).jobWeight m = s.jobWeight m := jobWeight_congr (by simp)
@[simp] theorem jobWeight_finished {l : List Nat} :
    ({ s with jt := { s.jt with finished := l } } : State).jobWeight m = s.jobWeight m := jobWeight_congr (job?_congr rfl)

theorem jobWeight_none (h : s.job? n = none) : s.jobWeight n = 1 := by rw [State.jobWeight, h]

/-- A job's weight is of its state, its hold reasons and its purpose. -/
theorem jobWeight_modJob {f : Job → Job} (hf : ∀ j, (f j).num = j.num ∧ (f j).state = j.state ∧ (f j).holds = j.holds
    ∧ (f j).purpose = j.purpose) : (s.modJob n f).jobWeight m = s.jobWeight m := by
  have hmod := job?_modJob (s := s) (n := n) (m := m) (fun j => (hf j).1)
  unfold State.jobWeight
  rw [hmod]
  by_cases h : m = n
  · subst h
    rw [if_pos rfl]
    cases s.job? m with
    | none => rfl
    | some j =>
      obtain ⟨-, hst, hh, hp⟩ := hf j
      simp only [Option.map_some, hst, hh, hp]
  · rw [if_neg h]

/-- The weight of job `n` set aside as 1, that of the others as they are. -/
def State.lightened (s : State) (n : Nat) : Nat → Nat := fun m => if m = n then 1 else s.jobWeight m

theorem lightened_le : ∀ m, s.lightened n m ≤ s.jobWeight m := by
  intro m
  unfold State.lightened
  split
  · exact jobWeight_pos m
  · rfl

theorem lightened_pos : ∀ m, 1 ≤ s.lightened n m := by
  intro m
  unfold State.lightened
  split
  · rfl
  · exact jobWeight_pos m

/-! ### Slots -/

theorem load_leaveRun (h : (s.port p).run = some n) : (leaveRun p s).load w + w n = s.load w := by
  have := load_modPort (s := s) (p := p) (w := w) fun x => { x with run := none, busy := false }
  simp only [slotsWeight, Port.slots, h, Option.elim] at this
  rw [leaveRun, load_evalMedia]
  omega

theorem load_enterRun (h : (s.port p).run = none) : (enterRun p n s).load w = s.load w + w n := by
  have := load_modPort (s := s) (p := p) (w := w) fun x => { x with run := some n, idleTimer := none }
  simp only [slotsWeight, Port.slots, h, Option.elim] at this
  rw [enterRun, load_evalMedia]
  split
  · rw [load_setJobState, load_modJob]; omega
  · rw [load_modJob]; omega

theorem runState_ne_draining : j.runState ≠ .draining := by
  unfold Job.runState
  split <;> decide

theorem jobWeight_enterRun (m : Nat) : (enterRun p n s).jobWeight m ≤ s.lightened n m := by
  have hne (m : Nat) (hm : m ≠ n) : s.jobWeight m ≤ s.lightened n m := (if_neg hm).ge
  rw [enterRun, jobWeight_evalMedia]
  split
  · refine jobWeight_setJobState_le runState_ne_draining lightened_pos (fun m hm => ?_) m
    rw [jobWeight_modJob_ne (by intro; rfl) hm, jobWeight_modPort]
    exact hne m hm
  · next h =>
    by_cases hm : m = n
    · subst hm
      rw [jobWeight_none h]
      exact lightened_pos m
    · rw [jobWeight_modJob_ne (by intro; rfl) hm, jobWeight_modPort]
      exact hne m hm

/-- A job that enters an empty run slot weighs 1 there. -/
theorem weight_enterRun (h : (s.port p).run = none) : (enterRun p n s).weight ≤ s.weight + 1 := by
  have hjobs := State.weight_le (jobWeight_enterRun (s := s) (p := p) (n := n))
  rw [load_enterRun h] at hjobs
  have hle : s.load (s.lightened n) ≤ s.weight := load_mono lightened_le
  have hone : s.lightened n n = 1 := if_pos rfl
  omega

theorem susp_of_suspPort (h : s.suspPort n = some p) : (s.port p).susp.isSome := by
  have := List.find?_some h
  cases hs : (s.port p).susp with
  | none => simp [hs] at this
  | some u => rfl

theorem inc_of_incPort (h : s.incPort n = some p) : (s.port p).inc.isSome := by
  have := List.find?_some h
  cases hs : (s.port p).inc with
  | none => simp [hs] at this
  | some u => rfl

theorem load_emptySusp (h : (s.port p).susp.isSome) : (s.modPort p fun x => { x with susp := none }).load w + 3 = s.load w := by
  have := load_modPort (s := s) (p := p) (w := w) fun x => { x with susp := none }
  simp only [slotsWeight, Port.slots, h, Option.isSome_none, Bool.toNat_true, Bool.toNat_false] at this
  omega

theorem load_emptyInc (h : (s.port p).inc.isSome) : (s.modPort p fun x => { x with inc := none }).load w + 3 = s.load w := by
  have := load_modPort (s := s) (p := p) (w := w) fun x => { x with inc := none }
  simp only [slotsWeight, Port.slots, h, Option.isSome_none, Bool.toNat_true, Bool.toNat_false] at this
  omega

theorem load_leaveSlot (hw : ∀ m, 1 ≤ w m) : tasksWeight (leaveSlot j s).2 + (leaveSlot j s).1.load w ≤ s.load w := by
  unfold leaveSlot
  split
  · next p h =>
    have := load_leaveRun (w := w) (runPort_some h)
    have := hw j.num
    simp only [tasksWeight, List.map_cons, List.map_nil, List.sum_cons, List.sum_nil, Task.weight]
    omega
  · split
    · next p h =>
      have := load_emptySusp (w := w) (susp_of_suspPort h)
      simp only [tasksWeight, List.map_cons, List.map_nil, List.sum_cons, List.sum_nil, Task.weight]
      omega
    · split
      · next p h =>
        have := load_emptyInc (w := w) (inc_of_incPort h)
        simp only [tasksWeight, List.map_cons, List.map_nil, List.sum_cons, List.sum_nil, Task.weight]
        omega
      · simp [tasksWeight]

/-! ### Queues -/

theorem length_placeInQueue (j : Job) (l : List Nat) : (placeInQueue s j l).length = l.length + 1 := by
  induction l with
  | nil => rfl
  | cons b l ih =>
    unfold placeInQueue
    repeat' split
    all_goals simp [ih]

theorem load_leaveQueue : (leaveQueue j s).load w ≤ s.load w := by
  unfold leaveQueue
  rw [load_modJob]
  split
  · next b h =>
    have := load_modPort (s := s) (p := b) (w := w) fun x => { x with pinnedQ := x.pinnedQ.erase j.num }
    have := List.length_erase_le (a := j.num) (l := (s.port b).pinnedQ)
    simp only [slotsWeight, Port.slots] at *
    omega
  · have := load_setQueue (s := s) (w := w) j.dest ((s.queue j.dest).erase j.num)
    have := List.length_erase_le (a := j.num) (l := s.queue j.dest)
    omega

/-- A job that stands in a queue weighs 55 there. -/
theorem load_eraseQueue {d : Fin 32} (h : n ∈ s.queue d) : (s.setQueue d ((s.queue d).erase n)).load w + 55 = s.load w := by
  have := load_setQueue (s := s) (w := w) d ((s.queue d).erase n)
  have := List.length_erase_of_mem h
  have := List.length_pos_of_mem h
  omega

theorem jobWeight_leaveQueue : (leaveQueue j s).jobWeight m = s.jobWeight m := by
  rw [leaveQueue, jobWeight_modJob (by intro; exact ⟨rfl, rfl, rfl, rfl⟩)]
  split <;> simp

theorem jobWeight_detach : (detach j s).1.jobWeight m = s.jobWeight m := by
  unfold detach leaveSlot
  split
  · exact jobWeight_leaveQueue
  all_goals (repeat' split) <;> simp

theorem load_detach (hw : ∀ m, 1 ≤ w m) : tasksWeight (detach j s).2 + (detach j s).1.load w ≤ s.load w := by
  have hslot := load_leaveSlot (s := s) (j := j) hw
  unfold detach
  split
  · simpa [tasksWeight] using load_leaveQueue
  all_goals simp_all [tasksWeight]

/-- A job that joins a queue weighs 55 there, and brings about an offer or a pull. -/
theorem weight_joinQueue (hw : ∀ m, 1 ≤ w m) (h : ∀ m, m ≠ n → s.jobWeight m ≤ w m) :
    tasksWeight (joinQueue n r s).2 + (joinQueue n r s).1.weight ≤ s.load w + 56 := by
  have hmod (m : Nat) (hm : m ≠ n) : (s.modJob n fun j => { j with queueEntry := some s.clock }).jobWeight m ≤ w m := by
    rw [jobWeight_modJob_ne (by intro; rfl) hm]
    exact h m hm
  unfold joinQueue
  dsimp only
  split
  · next hnone =>
    have := State.weight_le (w := w) (s := s.modJob n fun j => { j with queueEntry := some s.clock }) fun m => by
      by_cases hm : m = n
      · subst hm
        rw [jobWeight_none hnone]
        exact hw m
      · exact hmod m hm
    rw [load_modJob] at this
    simp only [tasksWeight, List.map_nil, List.sum_nil]
    omega
  · next j hj =>
    split
    · next b hb =>
      refine le_trans (Nat.add_le_add_left (State.weight_le (w := w) (jobWeight_setJobState_le (by decide) hw fun m hm => ?_)) _) ?_
      · rw [jobWeight_modPort]; exact hmod m hm
      · rw [load_setJobState]
        have := load_modPort (s := s.modJob n fun j => { j with queueEntry := some s.clock }) (p := b) (w := w)
          fun x => { x with pinnedQ := x.pinnedQ ++ [n] }
        simp only [load_modJob, slotsWeight, Port.slots, List.length_append, List.length_cons, List.length_nil] at this
        simp only [tasksWeight, List.map_cons, List.map_nil, List.sum_cons, List.sum_nil, Task.weight]
        omega
    · refine le_trans (Nat.add_le_add_left (State.weight_le (w := w) (jobWeight_setJobState_le (by decide) hw fun m hm => ?_)) _) ?_
      · rw [jobWeight_setQueue]; exact hmod m hm
      · rw [load_setJobState]
        have := load_setQueue (s := s.modJob n fun j => { j with queueEntry := some s.clock }) (w := w) j.dest
          (placeInQueue (s.modJob n fun j => { j with queueEntry := some s.clock }) j
            ((s.modJob n fun j => { j with queueEntry := some s.clock }).queue j.dest))
        rw [length_placeInQueue, load_modJob] at this
        simp only [tasksWeight, List.map_cons, List.map_nil, List.sum_cons, List.sum_nil, Task.weight]
        omega

/-! ### The end of a job, and drains -/

theorem weight_finishJob {st : JobState} (hst : st ≠ .draining) :
    tasksWeight (finishJob j st r s).2 + (finishJob j st r s).1.weight ≤ s.weight := by
  refine le_trans (Nat.add_le_add_left (State.weight_le (w := s.jobWeight) fun m => ?_) _) ?_
  · refine jobWeight_setJobState_le hst jobWeight_pos (fun m hm => ?_) m
    rw [jobWeight_finished, jobWeight_freeImages, jobWeight_modJob_ne (by intro; rfl) hm, jobWeight_detach]
  · have := load_detach (s := s) (j := j) (w := s.jobWeight) jobWeight_pos
    have hload : (finishJob j st r s).1.load s.jobWeight = (detach j s).1.load s.jobWeight :=
      load_setJobState.trans (load_finished.trans (load_freeImages.trans load_modJob))
    have htasks : (finishJob j st r s).2 = (detach j s).2 := rfl
    rw [hload, htasks]
    exact this

/-- The end of a drain lowers the weight by that of the pull it brings about. -/
theorem weight_endDrain {cause : EndCause} (hrun : (s.port p).run = some n) (hj : s.job? n = some j)
    (hst : j.state = .draining) :
    tasksWeight (endDrain p j cause s).2 + (endDrain p j cause s).1.weight ≤ s.weight := by
  obtain rfl := job?_num hj
  unfold endDrain
  split
  · exact weight_finishJob (by decide)
  · dsimp only
    obtain ⟨u, hu⟩ : ∃ u, u = s.modJob j.num fun j => { j with purpose := none } := ⟨_, rfl⟩
    have hne (m : Nat) (hm : m ≠ j.num) : u.jobWeight m ≤ s.jobWeight m := by
      rw [hu, jobWeight_modJob_ne (by intro; rfl) hm]
    have hleft (m : Nat) (hm : m ≠ j.num) : (leaveRun p u).jobWeight m ≤ s.jobWeight m := by
      rw [jobWeight_leaveRun]
      exact hne m hm
    have hout : (leaveRun p u).load s.jobWeight + s.jobWeight j.num = s.weight := by
      rw [load_leaveRun (s := u) (by rw [hu]; exact hrun), hu, load_modJob]
      rfl
    rw [← hu]
    split
    · have := State.weight_le (w := s.jobWeight) (jobWeight_setJobState_le (n := j.num) (st := .held)
        (r := cause.reason false) (by decide) jobWeight_pos hleft)
      rw [load_setJobState] at this
      have := jobWeight_pos (s := s) j.num
      simp only [tasksWeight, List.map_cons, List.map_nil, List.sum_cons, List.sum_nil, Task.weight]
      omega
    · next hholds =>
      split
      · next hsusp =>
        have hfour : s.jobWeight j.num = 4 := by
          rw [State.jobWeight, hj]
          simp_all
        generalize ({ job := j.num, reason := (j.purpose.getD .suspendHost).suspReason } : Suspended) = x
        have := State.weight_le (w := s.jobWeight) (jobWeight_setJobState_le (n := j.num) (st := .suspended)
          (r := cause.reason false) (s := (leaveRun p u).modPort p fun y => { y with susp := some x }) (by decide) jobWeight_pos
          fun m hm => jobWeight_modPort.trans_le (hleft m hm))
        rw [load_setJobState] at this
        have hslot := load_modPort (s := leaveRun p u) (p := p) (w := s.jobWeight) fun y => { y with susp := some x }
        simp only [slotsWeight, Port.slots, Option.isSome_some, Bool.toNat_true] at hslot
        simp only [tasksWeight, List.map_cons, List.map_nil, List.sum_cons, List.sum_nil, Task.weight]
        omega
      · next hother =>
        have hsixty : s.jobWeight j.num = 60 := by
          rw [State.jobWeight, hj]
          simp_all
        have := weight_joinQueue (r := cause.reason false) jobWeight_pos hleft
        simp only [tasksWeight, List.map_cons, Task.weight, List.sum_cons] at this ⊢
        omega

theorem weight_runEnd {cause : EndCause} :
    tasksWeight (runEnd p cause s).2 + (runEnd p cause s).1.weight ≤ s.weight := by
  unfold runEnd
  split
  · simp [tasksWeight]
  · next j hj =>
    obtain ⟨n, hrun, hn⟩ := Option.bind_eq_some_iff.mp hj
    split
    · split
      · exact weight_finishJob (by decide)
      · simp [tasksWeight]
    · split
      · exact weight_finishJob (by decide)
      · split
        · next h => exact weight_endDrain hrun hn h.1
        · simp [tasksWeight]

/-- A job that begins to drain weighs at most 4, if it will be suspended, and 1 while something holds it. -/
theorem jobWeight_beginDrain {u : Purpose} {k : Nat} (hw : ∀ m, 1 ≤ w m) (h : ∀ m, m ≠ n → s.jobWeight m ≤ w m)
    (hj : s.job? n = some j)
    (hk : 3 ≤ k ∧ (u = .suspendInsert ∨ u = .suspendHost) ∨ j.holds.isEmpty = false) (m : Nat) :
    (beginDrain p n u r s).1.jobWeight m ≤ w m + k := by
  by_cases hm : m = n
  · subst hm
    have hpos := hw m
    have hjob : (beginDrain p m u r s).1.job? m = some { j with purpose := some u, state := .draining } := by
      unfold beginDrain
      rw [job?_setJobState, if_pos rfl, job?_modJob_self (by intro; rfl) hj]
      rfl
    rw [State.jobWeight, hjob]
    dsimp only
    rcases hk with ⟨hk, hu⟩ | hk
    · have hu' : some u = some .suspendInsert ∨ some u = some .suspendHost := hu.imp (congrArg some) (congrArg some)
      rw [if_pos hu']
      split <;> omega
    · rw [if_neg (by simp [hk])]
      omega
  · have hsame : (beginDrain p n u r s).1.jobWeight m = s.jobWeight m := by
      unfold beginDrain
      refine jobWeight_congr ?_
      rw [job?_setJobState, if_neg hm, job?_modJob (by intro; rfl), if_neg hm]
    have := h m hm
    omega

@[simp] theorem load_beginDrain {u : Purpose} : (beginDrain p n u r s).1.load w = s.load w :=
  load_setJobState.trans load_modJob

/-! ### Dispatch, offer and pull -/

theorem weight_frame (hp : ∀ q, (t.port q).slots = (s.port q).slots) (hd : t.dt = s.dt) (hj : t.jt.jobs = s.jt.jobs) :
    t.weight = s.weight := by
  unfold State.weight
  rw [load_congr hp hd]
  exact congrArg s.load (funext fun m => jobWeight_congr (job?_congr hj))

theorem weight_creditStop (hj : s.job? n = some j) : (creditStop p n s).1.weight ≤ s.weight := by
  have hjob := job?_modJob_self (f := fun j : Job => { j with holds := { j.holds with credit := true } }) (by intro; rfl) hj
  have := State.weight_le (jobWeight_beginDrain (p := p) (r := .credit) (u := .credit) (k := 0) (w := s.jobWeight) jobWeight_pos
    (fun m hm => (jobWeight_modJob_ne (f := fun j : Job => { j with holds := { j.holds with credit := true } })
      (by intro; rfl) hm).le) hjob (.inr (by simp [Holds.isEmpty])))
  refine this.trans (le_of_eq ?_)
  rw [load_beginDrain, load_modJob]
  rfl

theorem weight_starvedTest (h : ∀ m, s.jobWeight m ≤ w m) : (starvedTest n r s).weight ≤ s.load w := by
  refine (State.weight_le (w := w) fun m => ?_).trans_eq load_starvedTest
  unfold starvedTest
  split
  · exact h m
  · split
    · exact jobWeight_setJobState_le runState_ne_draining (fun m => (jobWeight_pos m).trans (h m)) (fun m _ => h m) m
    · exact h m

theorem weight_sendSheet {i : Image} {f : Flight} : (sendSheet p j i f s).weight ≤ s.weight := by
  unfold sendSheet
  dsimp only
  refine (weight_starvedTest (w := s.jobWeight) fun m => ?_).trans_eq ?_
  · rw [jobWeight_modJob (by intro; exact ⟨rfl, rfl, rfl, rfl⟩), jobWeight_modPort]
  · rw [load_modJob, load_congr (fun q => slots_modPort (by intro; rfl)) (by simp)]
    rfl

theorem weight_dispatch : tasksWeight (dispatch p s).2 + (dispatch p s).1.weight + 1 ≤ 2 + s.weight := by
  unfold dispatch
  split
  · simp [tasksWeight]
  · next j hj =>
    obtain ⟨n, -, hn⟩ := Option.bind_eq_some_iff.mp hj
    obtain rfl := job?_num hn
    split
    · simp [tasksWeight]
    · split
      · simp [tasksWeight]
      · next i _ =>
        dsimp only
        split
        · have := weight_sendSheet (s := reserve j.account (newFlight s p j i).charge (newFlight s p j i).sides s) (p := p) (j := j)
            (i := i) (f := newFlight s p j i)
          have hres : (reserve j.account (newFlight s p j i).charge (newFlight s p j i).sides s).weight = s.weight :=
            weight_frame (fun q => slots_of_ports (by simp)) (by simp) (by simp)
          simp only [tasksWeight, List.map_nil, List.sum_nil]
          omega
        · have := weight_creditStop (p := p) hn
          have htasks : tasksWeight (creditStop p j.num s).2 = 1 := rfl
          omega

/-- A job taken into an empty run slot from where it weighed 3 or more. -/
theorem weight_enterFrom {u : State} (h : (u.port p).run = none) (hu : u.weight + 3 ≤ s.weight) :
    tasksWeight [.dispatch p] + (enterRun p n u).weight ≤ s.weight := by
  have := weight_enterRun (n := n) h
  simp only [tasksWeight, List.map_cons, List.map_nil, List.sum_cons, List.sum_nil, Task.weight]
  omega

theorem leaveQueue_dest (hpin : j.pinnedAt = none) : leaveQueue j s
    = (s.setQueue j.dest ((s.queue j.dest).erase j.num)).modJob j.num (fun j => { j with queueEntry := none }) := by
  rw [leaveQueue, hpin]

/-- A job that leaves its destination's queue takes 55 with it. -/
theorem load_leaveQueue_dest (hpin : j.pinnedAt = none) (hq : j.num ∈ s.queue j.dest) :
    (leaveQueue j s).load w + 55 = s.load w := by
  rw [leaveQueue_dest hpin, load_modJob, load_eraseQueue hq]

theorem weight_leaveQueue_dest (hpin : j.pinnedAt = none) (hq : j.num ∈ s.queue j.dest) :
    (leaveQueue j s).weight + 55 = s.weight := by
  unfold State.weight
  rw [show (leaveQueue j s).jobWeight = s.jobWeight from funext fun m => jobWeight_leaveQueue, load_leaveQueue_dest hpin hq]

theorem port_leaveQueue_dest (hpin : j.pinnedAt = none) : (leaveQueue j s).port q = s.port q := by
  rw [leaveQueue_dest hpin]
  simp [State.port]

theorem weight_insertAt (hq : j.num ∈ s.queue j.dest) (hpin : j.pinnedAt = none) {v : Job} (hv : s.runJob p = some v)
    (hne : v.num ≠ j.num) : tasksWeight (insertAt p j s).2 + (insertAt p j s).1.weight ≤ s.weight := by
  obtain ⟨n, hrun, hn⟩ := Option.bind_eq_some_iff.mp hv
  obtain rfl := job?_num hn
  obtain ⟨u, hu⟩ : ∃ u, u = setJobState j.num .suspended .port ((leaveQueue j s).modPort p fun x => { x with inc := some j.num }) :=
    ⟨_, rfl⟩
  have hurun : (u.port p).run = some v.num := by
    have hslots : (u.port p).slots = _ := hu ▸ slots_setJobState
    have := congrArg Prod.fst hslots
    simpa [Port.slots, port_leaveQueue_dest hpin, hrun] using this
  have hujob (m : Nat) (hm : m ≠ j.num) : u.job? m = s.job? m := by
    rw [hu, job?_setJobState, if_neg hm, job?_modPort, leaveQueue_dest hpin, job?_modJob (by intro; rfl), if_neg hm,
      job?_setQueue]
  have huweight (m : Nat) : u.jobWeight m ≤ s.jobWeight m := by
    rw [hu]
    refine jobWeight_setJobState_le (by decide) jobWeight_pos (fun m _ => ?_) m
    rw [jobWeight_modPort, jobWeight_leaveQueue]
  have huload : u.load s.jobWeight + 52 ≤ s.weight := by
    have h1 := load_leaveQueue_dest (w := s.jobWeight) hpin hq
    have h2 := load_modPort (s := leaveQueue j s) (p := p) (w := s.jobWeight) fun x => { x with inc := some j.num }
    simp only [slotsWeight, Port.slots, Option.isSome_some, Bool.toNat_true] at h2
    rw [hu, load_setJobState]
    unfold State.weight
    omega
  have hins : insertAt p j s = beginDrain p v.num .suspendInsert .port u := by
    rw [insertAt, ← hu, hurun]
  have hdrain := State.weight_le (jobWeight_beginDrain (p := p) (r := .port) (u := .suspendInsert) (k := 3) jobWeight_pos
    (fun m _ => huweight m) ((hujob v.num hne).trans hn) (.inl ⟨Nat.le_refl 3, .inl rfl⟩))
  have hadd := load_add (s := u) (w := s.jobWeight) 3
  rw [load_beginDrain] at hdrain
  rw [hins, show tasksWeight (beginDrain p v.num .suspendInsert .port u).2 = 1 from rfl]
  omega

theorem runJob_of_insertionFits (h : insertionFits s j p = true) : ∃ v, s.runJob p = some v ∧ v.rush = false := by
  unfold insertionFits at h
  cases hv : s.runJob p with
  | none => simp [hv] at h
  | some v => exact ⟨v, rfl, by simp [hv] at h; exact h.1.1.1.1.1⟩

theorem weight_offerJob : tasksWeight (offerJob n s).2 + (offerJob n s).1.weight ≤ s.weight := by
  unfold offerJob
  split
  · simp [tasksWeight]
  · next j hj =>
    obtain rfl := job?_num hj
    dsimp only
    split
    · simp [tasksWeight]
    · next hoffer =>
      obtain ⟨⟨-, hpin⟩, hq⟩ : ((s.dest j.dest).enabled = true ∧ j.pinnedAt = none) ∧ j.num ∈ s.queue j.dest := by
        simpa using hoffer
      split
      · next p hp =>
        have htakes := List.find?_some hp
        have hrun : (s.port p).run = none := by
          simp only [offerTakes, Bool.and_eq_true, Option.isNone_iff_eq_none] at htakes
          exact htakes.1.1
        have := weight_leaveQueue_dest hpin hq
        exact weight_enterFrom (by rw [port_leaveQueue_dest hpin]; exact hrun) (by omega)
      · split
        · next hrush =>
          split
          · next p hp =>
            obtain ⟨v, hv, hvrush⟩ := runJob_of_insertionFits (List.find?_some hp)
            refine weight_insertAt hq hpin hv fun hnum => ?_
            obtain ⟨n, -, hn⟩ := Option.bind_eq_some_iff.mp hv
            obtain rfl := job?_num hn
            rw [hnum, hj] at hn
            cases hn
            simp [hvrush] at hrush
          · simp [tasksWeight]
        · simp [tasksWeight]

/-- A candidate stands in its destination's queue. -/
theorem candidate_mem {d e : Fin 32} (h : candidate s p d = some (e, j)) : e = d ∧ j.num ∈ s.queue d := by
  unfold candidate at h
  split at h
  · obtain ⟨k, hk, hkj⟩ := Option.map_eq_some_iff.mp h
    cases hkj
    obtain ⟨n, hn, hjob⟩ := Option.bind_eq_some_iff.mp hk
    obtain rfl := job?_num hjob
    exact ⟨rfl, List.mem_of_find?_eq_some hn⟩
  · cases h

theorem betterJob_eq {a b x : Option (Fin 32 × Job)} (h : betterJob a b = x) : x = a ∨ x = b := by
  unfold betterJob at h
  subst h
  repeat' split
  all_goals simp

theorem foldl_betterJob (l : List (Fin 32)) (a : Option (Fin 32 × Job)) :
    l.foldl (fun best d => betterJob best (candidate s p d)) a = a
      ∨ ∃ d ∈ l, l.foldl (fun best d => betterJob best (candidate s p d)) a = candidate s p d := by
  induction l generalizing a with
  | nil => exact .inl rfl
  | cons d l ih =>
    rcases ih (betterJob a (candidate s p d)) with h | ⟨e, he, h⟩
    · rcases betterJob_eq (a := a) (b := candidate s p d) rfl with h' | h'
      · exact .inl (h.trans h')
      · exact .inr ⟨d, List.mem_cons_self, h.trans h'⟩
    · exact .inr ⟨e, List.mem_cons_of_mem _ he, h⟩

theorem bestCandidate_mem {d : Fin 32} (h : bestCandidate s p = some (d, j)) : j.num ∈ s.queue d := by
  rcases foldl_betterJob (s := s) (p := p) allDests none with hn | ⟨e, -, he⟩
  · exact absurd (h.symm.trans hn) (by simp)
  · obtain ⟨rfl, hm⟩ := candidate_mem (he.symm.trans h)
    exact hm

theorem weight_modPort (f : Port → Port) : (s.modPort p f).weight = (s.modPort p f).load s.jobWeight :=
  congrArg (s.modPort p f).load (funext fun _ => jobWeight_modPort)

theorem weight_pullQueues (hrun : (s.port p).run = none) :
    tasksWeight (pullQueues p s).2 + (pullQueues p s).1.weight ≤ s.weight := by
  unfold pullQueues
  split
  · simp [tasksWeight]
  · split
    · next n rest hq =>
      have := load_modPort (s := s) (p := p) (w := s.jobWeight) fun x => { x with pinnedQ := rest }
      simp only [slotsWeight, Port.slots, hq, List.length_cons] at this
      refine weight_enterFrom (by simpa using hrun) ?_
      rw [weight_modPort]
      unfold State.weight
      omega
    · split
      · next d j hbest =>
        have := load_eraseQueue (w := s.jobWeight) (bestCandidate_mem hbest)
        refine weight_enterFrom (by simpa [State.port] using hrun) ?_
        rw [State.weight, show (s.setQueue d ((s.queue d).erase j.num)).jobWeight = s.jobWeight from
          funext fun _ => jobWeight_setQueue]
        unfold State.weight
        omega
      · simp [tasksWeight]

theorem weight_pull : tasksWeight (pull p s).2 + (pull p s).1.weight ≤ s.weight := by
  unfold pull
  dsimp only
  split
  · simp [tasksWeight]
  · next hsome =>
    have hrun : (s.port p).run = none := by simpa using hsome
    split
    · next n hinc =>
      have := load_emptyInc (s := s) (p := p) (w := s.jobWeight) (by simp [hinc])
      refine weight_enterFrom (by simpa using hrun) ?_
      rw [weight_modPort]
      unfold State.weight
      omega
    · split
      · next u hsusp =>
        split
        · exact weight_pullQueues hrun
        · have := load_emptySusp (s := s) (p := p) (w := s.jobWeight) (by simp [hsusp])
          refine weight_enterFrom (by simpa using hrun) ?_
          rw [weight_modPort]
          unfold State.weight
          omega
      · exact weight_pullQueues hrun

/-- The record of a job with CREDIT removed (R46). -/
def Job.creditCleared (j : Job) : Job := { j with holds := { j.holds with credit := false } }

theorem creditClear_of (hj : s.job? n = some j) : creditClear n s
    = if j.state = .held ∧ !j.holds.host ∧ !j.holds.panel then joinQueue n .credit (s.modJob n Job.creditCleared)
      else (s.modJob n Job.creditCleared, []) := by
  rw [creditClear, hj]
  rfl

theorem creditClear_none (hj : s.job? n = none) : creditClear n s = (s, []) := by rw [creditClear, hj]

theorem weight_creditClear : tasksWeight (creditClear n s).2 + (creditClear n s).1.weight ≤ s.weight + 1099 := by
  have hs : s.load s.jobWeight = s.weight := rfl
  cases hj : s.job? n with
  | none =>
    rw [creditClear_none hj]
    simp [tasksWeight]
  | some j =>
    rw [creditClear_of hj]
    split
    · have := weight_joinQueue (s := s.modJob n Job.creditCleared) (r := .credit) jobWeight_pos fun m hm =>
        (jobWeight_modJob_ne (s := s) (f := Job.creditCleared) (by intro; rfl) hm).le
      rw [load_modJob] at this
      omega
    · have hle := State.weight_le (s := s.modJob n Job.creditCleared) (w := fun m => s.jobWeight m + 59) fun m => by
        have := jobWeight_pos (s := s) m
        have := jobWeight_le (s := s.modJob n Job.creditCleared) m
        omega
      have hadd := load_add (s := s) (w := s.jobWeight) 59
      rw [load_modJob] at hle
      simp only [tasksWeight, List.map_nil, List.sum_nil]
      omega

/-- Every task run lowers the weight of what remains (log 16). -/
theorem weight_runTask (k : Task) : tasksWeight (runTask k s).2 + (runTask k s).1.weight + 1 ≤ k.weight + s.weight := by
  cases k with
  | pull p => have := weight_pull (s := s) (p := p); simp only [runTask, Task.weight]; omega
  | dispatch p => exact weight_dispatch
  | offer n => have := weight_offerJob (s := s) (n := n); simp only [runTask, Task.weight]; omega
  | runEnd p cause => have := weight_runEnd (s := s) (p := p) (cause := cause); simp only [runTask, Task.weight]; omega
  | creditClear n => have := weight_creditClear (s := s) (n := n); simp only [runTask, Task.weight]; omega
  | jamOn p location =>
    have : (condOn p .jam (some location) s).weight = s.weight := weight_frame (by simp) (by simp) (by simp)
    simp only [runTask, Task.weight, tasksWeight, List.map_nil, List.sum_nil]; omega
  | stallTail p detail =>
    have : (Machine.stallTail p detail s).weight = s.weight := weight_frame (by simp) (by simp) (by simp)
    simp only [runTask, Task.weight, tasksWeight, List.map_nil, List.sum_nil]; omega
  | settle =>
    have : (Machine.settle s).weight = s.weight := weight_frame (by simp) (by simp) (by simp)
    simp only [runTask, Task.weight, tasksWeight, List.map_nil, List.sum_nil]; omega
  | note b l =>
    have : (s.note b l).weight = s.weight := weight_frame (fun q => slots_of_ports (by simp)) (by simp) (by simp)
    simp only [runTask, Task.weight, tasksWeight, List.map_nil, List.sum_nil]; omega

/-- Any two fuels above the weight of the tasks and the state give the same run. -/
theorem runTasks_fuel (ts : List Task) (s : State) {a b : Nat} (ha : tasksWeight ts + s.weight < a)
    (hb : tasksWeight ts + s.weight < b) : runTasks a ts s = runTasks b ts s := by
  induction a generalizing b ts s with
  | zero => omega
  | succ a ih =>
    obtain ⟨b, rfl⟩ : ∃ c, b = c + 1 := ⟨b - 1, by omega⟩
    cases ts with
    | nil => rfl
    | cons k ts =>
      have hk := weight_runTask (s := s) k
      have hcons : tasksWeight (k :: ts) = k.weight + tasksWeight ts := by simp [tasksWeight]
      have happ : tasksWeight ((runTask k s).2 ++ ts) = tasksWeight (runTask k s).2 + tasksWeight ts := by simp [tasksWeight]
      exact ih ((runTask k s).2 ++ ts) (runTask k s).1 (by omega) (by omega)

/-- Settles O54. -/
theorem cascadeCompletes : Obligations.CascadeCompletes := by
  intro ts s more
  have hfuel : cascadeFuel ts s = tasksWeight ts + s.weight + 1 := cascadeFuel_eq ts
  exact runTasks_fuel ts s (by omega) (by omega)

end Sys2Proof.Machine
end

section
/-! PROOF. PANEL_SET and PANEL_QUERY (R164, R165). -/

namespace Sys2Proof.Machine

variable {s : State}

theorem panelNo?_val (a : Fin 8) : panelNo? a.val = some a := by simp [panelNo?]

theorem panelNo?_eq_none {n : Nat} (h : 7 < n) : panelNo? n = none := by simp [panelNo?]; omega

theorem rights?_code (r : Rights) : rights? r.code = some r := by cases r <;> rfl

theorem rights?_eq_none {n : Nat} (h : 3 < n) : rights? n = none := by
  obtain ⟨k, rfl⟩ := Nat.exists_eq_add_of_lt h
  rw [show 3 + k + 1 = k + 4 by omega]
  rfl

/-! ### PANEL_QUERY -/

/-- The 13 bytes of a record report (Table 11-6, R165). -/
theorem panelReport_eq (a : Fin 8) : s.panelReport a
    = [BitVec.ofNat 8 a.val, BitVec.ofNat 8 ((if (s.panelCfg a).fitted then 1 else 0) + (if (s.panel a).present then 2 else 0)),
          BitVec.ofNat 8 (s.panelCfg a).rights.code, BitVec.ofNat 8 (s.panel a).misses]
        ++ (match (s.panel a).lastAction with
            | none => [0, 0, 0, 0, 255]
            | some r => [r.number, r.code] ++ be16 r.argument ++ [BitVec.ofNat 8 r.result])
        ++ be32 ((s.panel a).lastReply.getD 0) := by
  unfold State.panelReport
  simp only [flagByte_pair, be8, bit, mul_ite, mul_one, mul_zero]
  cases (s.panel a).lastAction <;> rfl

theorem panelReport_length (a : Fin 8) : (s.panelReport a).length = 13 := by
  rw [panelReport_eq]
  cases (s.panel a).lastAction <;> rfl

theorem doPanelQuery_one (a : Fin 8) : doPanelQuery a.val s = report s (s.panelReport a) := by
  have : a.val ≠ 255 := by omega
  rw [doPanelQuery, if_neg this, panelNo?_val]
  rfl

theorem doPanelQuery_all : doPanelQuery 255 s = report s ((List.finRange 8).flatMap s.panelReport) := if_pos rfl

theorem doPanelQuery_badField {n : Nat} (h : 7 < n) (h' : n ≠ 255) : doPanelQuery n s = .error .badField := by
  rw [doPanelQuery, if_neg h', panelNo?_eq_none h]
  rfl

/-! ### PANEL_SET -/

theorem doPanelSet_badField {address level fitted : Nat} (hs : s.ss.saving = none)
    (h : 7 < address ∨ 3 < level ∨ 1 < fitted) : doPanelSet address level fitted s = .error .badField := by
  rw [doPanelSet, unlessSaving_of_none hs]
  rcases h with h | h | h
  · rw [panelNo?_eq_none h]; rfl
  · rw [rights?_eq_none h]; cases panelNo? address <;> rfl
  · rw [flag?_eq_none h]; cases panelNo? address <;> cases rights? level <;> rfl

theorem doPanelSet_of {a : Fin 8} {r : Rights} {f : Bool} {address level fitted : Nat} (hs : s.ss.saving = none)
    (ha : address = a.val) (hr : level = r.code) (hf : flag? fitted = some f) :
    doPanelSet address level fitted s = .ok { st := applyPanelSet a r f s } := by
  rw [doPanelSet, unlessSaving_of_none hs, ha, hr, hf, panelNo?_val, rights?_code]
  rfl

theorem applyPanelSet_fitted {a : Fin 8} {r : Rights} (h : (s.panelCfg a).fitted = true) :
    applyPanelSet a r true s = s.setPanelCfg a { fitted := true, rights := r } := if_pos h

theorem applyPanelSet_fits {a : Fin 8} {r : Rights} (h : (s.panelCfg a).fitted = false) :
    applyPanelSet a r true s = (s.setPanelCfg a { fitted := true, rights := r }).setPanel a
      { s.panel a with polledAt := none } := if_neg (by simp [h])

/-- A panel that ceases to be fitted, with no exchange with it under way. -/
theorem unfit_quiet {a : Fin 8} (h : ∀ e ∈ s.pbc.awaiting, e.panel ≠ a) :
    unfit a s = if (s.panel a).present then makeAbsent a s else s := by
  have hpbc : (if (s.panel a).present then makeAbsent a s else s).pbc.awaiting = s.pbc.awaiting := by
    split <;> rfl
  unfold unfit
  dsimp only
  rw [hpbc]
  cases he : s.pbc.awaiting with
  | none => rfl
  | some e => exact if_neg (h e (by simp [he]))

/-- A panel that ceases to be fitted in the middle of an exchange (log 20). -/
theorem unfit_awaiting {a : Fin 8} {e : Exchange} (he : s.pbc.awaiting = some e) (h : e.panel = a) :
    unfit a s = { (if (s.panel a).present then makeAbsent a s else s) with
      pbc := { (if (s.panel a).present then makeAbsent a s else s).pbc with awaiting := none } } := by
  have hpbc : (if (s.panel a).present then makeAbsent a s else s).pbc.awaiting = s.pbc.awaiting := by
    split <;> rfl
  unfold unfit
  dsimp only
  rw [hpbc, he]
  exact if_pos h

/-- Settles O53. -/
theorem panelSettings : Obligations.PanelSettings := by
  intro tag address s htag ht report query
  have hq : Asks (.panelQuery tag address) s query (doPanelQuery address.toNat s.taking) :=
    asks (h := fun _ => doPanelQuery address.toNat) htag ht rfl rfl ⟨Nat.le_refl 1, Nat.le_refl 1⟩
  have hreport (a : Fin 8) : s.taking.panelReport a = report a := panelReport_eq (s := s.taking) a
  refine ⟨fun a ha => ⟨?_, hq.answers ?_⟩, fun h => hq.answers ?_, fun h h' => hq.refused ?_, ?_⟩
  · rw [← hreport]
    exact panelReport_length a
  · rw [ha, doPanelQuery_one, hreport]
    rfl
  · rw [show address.toNat = 255 by rw [h]; rfl, doPanelQuery_all, show s.taking.panelReport = report from funext hreport]
    rfl
  · exact doPanelQuery_badField h fun h255 => h' (by bv_omega)
  · intro hs level fitted i f
    have ha : Asks i s f (doPanelSet address.toNat level.toNat fitted.toNat s.taking) :=
      asks (h := fun _ => doPanelSet address.toNat level.toNat fitted.toNat) htag ht rfl rfl ⟨Nat.le_refl 3, Nat.le_refl 3⟩
    refine ⟨fun hbad => ha.refused (doPanelSet_badField hs hbad), ?_⟩
    intro a r haddr hlevel t x
    refine ⟨?_, ?_, ?_⟩
    · intro hf hwas
      have hok := ha.answers (doPanelSet_of hs haddr hlevel (f := true) (by rw [hf]; rfl))
      rw [applyPanelSet_fitted (s := s.taking) hwas] at hok
      subst hf
      exact hok
    · intro hf hwas
      have hok := ha.answers (doPanelSet_of hs haddr hlevel (f := true) (by rw [hf]; rfl))
      rw [applyPanelSet_fits (s := s.taking) hwas] at hok
      subst hf
      exact hok
    · intro hf absent
      have hok : Answers i s f .ok [] (unfit a t) := by
        subst hf
        exact ha.answers (doPanelSet_of hs haddr hlevel (f := false) rfl)
      refine ⟨fun hquiet => ?_, fun e he hp => ?_⟩
      · rw [unfit_quiet (s := t) hquiet] at hok
        exact hok
      · rw [unfit_awaiting (s := t) he hp] at hok
        exact hok

end Sys2Proof.Machine
end

section
/-! PROOF. The account requests and the credit clear (R136 to R138, R144). -/

namespace Sys2Proof.Machine

variable {s : State} {n : Nat} {j : Job}

theorem accountNo?_eq_none {n : Nat} (h : 127 < n) : accountNo? n = none := by simp [accountNo?]; omega

/-! ### The requests -/

/-- The contents of ACCOUNT_QUERY (Table 9-2). -/
theorem accountReport_eq (a : Fin 128) : s.accountReport a
    = [BitVec.ofNat 8 a.val, BitVec.ofNat 8 ((if (s.account a).isOpen then 1 else 0) + (if (s.account a).limited then 2 else 0)
              + (if (s.account a).fixed then 4 else 0) + (if (s.account a).exempt then 8 else 0))]
          ++ be32 (s.account a).limit ++ (be32 (s.account a).periodCharged ++ be32 (s.account a).periodImpressions
            ++ be32 (s.account a).periodSheets ++ be32 (s.account a).periodWaste ++ be32 (s.account a).periodDoubtful)
          ++ be32 (s.reservation a).mills ++ be16 (s.reservation a).impressions
          ++ be48 (s.account a).lifeCharged ++ be48 (s.account a).lifeImpressions ++ be32 (s.account a).periodOpened
          ++ be16 (s.jobsOf a).length ++ be16 ((s.jobsOf a).countP (fun j => j.holds.credit)) := by
  have hflags : (s.account a).flags = (if (s.account a).isOpen then 1 else 0) + (if (s.account a).limited then 2 else 0)
      + (if (s.account a).fixed then 4 else 0) + (if (s.account a).exempt then 8 else 0) := by
    simp only [Account.flags, flagByte, bit]
    repeat' split
    all_goals rfl
  simp only [State.accountReport, hflags, List.countP_eq_length_filter, be8, List.append_assoc, List.cons_append,
    List.nil_append]

theorem accountReport_length (a : Fin 128) : (s.accountReport a).length = 52 := by
  simp [State.accountReport, be8, be16, be32, be48]

theorem doAccountQuery_of {a : Fin 128} {k : Nat} (h : k = a.val) : doAccountQuery k s = report s (s.accountReport a) :=
  field_some (by subst h; exact accountNo?_val a) _

theorem doAccountQuery_badField {k : Nat} (h : 127 < k) : doAccountQuery k s = .error .badField :=
  field_none (accountNo?_eq_none h) _

theorem doAccountClose_of {a : Fin 128} {k : Nat} (h : k = a.val) : doAccountClose k s
    = .ok { contents := closeReport (s.account a) s.clock
            st := s.setAccount a ((s.account a).closePeriod s.clock), tasks := s.clearTasks a ++ [.settle] } := by
  have : k ≠ 255 := by omega
  rw [doAccountClose, if_neg this]
  exact field_some (by subst h; exact accountNo?_val a) _

theorem doAccountClose_all : doAccountClose 255 s
    = .ok { st := (closeAll s).1, tasks := (closeAll s).2 ++ [.settle] } := if_pos rfl

theorem doAccountClose_badField {k : Nat} (h : 127 < k) (h' : k ≠ 255) : doAccountClose k s = .error .badField := by
  rw [doAccountClose, if_neg h']
  exact field_none (accountNo?_eq_none h) _

theorem doAccountSet_badField {k flags limit : Nat} (hs : s.ss.saving = none) (h : 127 < k ∨ 15 < flags) :
    doAccountSet k flags limit s = .error .badField := by
  rw [doAccountSet, unlessSaving_of_none hs]
  refine field_badField fun a ha => if_pos ?_
  have := accountNo?_lt ha
  omega

theorem doAccountSet_of {a : Fin 128} {k flags limit : Nat} (hs : s.ss.saving = none) (h : k = a.val) (hf : flags ≤ 15) :
    doAccountSet k flags limit s
      = .ok { st := s.setAccount a ((s.account a).withFlags flags limit), tasks := s.clearTasks a ++ [.settle] } := by
  rw [doAccountSet, unlessSaving_of_none hs]
  refine (field_some (by subst h; exact accountNo?_val a) _).trans (if_neg (by omega))

/-! ### The credit clear -/

theorem creditClear_stays (hj : s.job? n = some j) (h : j.state ≠ .held ∨ j.holds.host = true ∨ j.holds.panel = true) :
    creditClear n s = (s.modJob n Job.creditCleared, []) := by
  rw [creditClear_of hj, if_neg]
  rintro ⟨hst, hh, hp⟩
  simp_all

theorem creditClear_queues (hj : s.job? n = some j) (hst : j.state = .held) (hh : j.holds.host = false)
    (hp : j.holds.panel = false) : creditClear n s = joinQueue n .credit (s.modJob n Job.creditCleared) := by
  rw [creditClear_of hj, if_pos (by simp [hst, hh, hp])]

/-- Settles O49, with the clears of an account as the tasks that follow its request. -/
theorem accountRequests : Obligations.AccountRequests := by
  intro s clears restart
  refine ⟨fun tag account htag ht => ?requests, fun n j hj => ?clear⟩
  case requests =>
    intro query close
    have hq : Asks (.accountQuery tag account) s query (doAccountQuery account.toNat s.taking) :=
      asks (h := fun _ => doAccountQuery account.toNat) htag ht rfl rfl ⟨Nat.le_refl 1, Nat.le_refl 1⟩
    have hc : Asks (.accountClose tag account) s close (doAccountClose account.toNat s.taking) :=
      asks (h := fun _ => doAccountClose account.toNat) htag ht rfl rfl ⟨Nat.le_refl 1, Nat.le_refl 1⟩
    refine ⟨?one, fun h => hq.refused (doAccountQuery_badField h), ?all, ?bad, ?set⟩
    case one =>
      intro a ha x jobs counts contents
      have hbyte : account = BitVec.ofNat 8 a.val := by
        rw [← ha, BitVec.ofNat_toNat, BitVec.setWidth_eq]
      have hreport : s.taking.accountReport a = contents := by
        rw [accountReport_eq (s := s.taking), ← hbyte]
        rfl
      refine ⟨?_, hq.answers ?_, ?_⟩
      · rw [← hreport]
        exact accountReport_length a
      · rw [doAccountQuery_of ha, hreport]
        rfl
      · exact hc.followed (doAccountClose_of ha)
    case all =>
      intro h
      have h255 : account.toNat = 255 := by rw [h]; rfl
      rw [h255, doAccountClose_all] at hc
      exact hc
    case bad => exact fun h h' => hc.refused (doAccountClose_badField h fun h255 => h' (by bv_omega))
    case set =>
      intro flags limit hs f i
      have hset : Asks i s f (doAccountSet account.toNat flags.toNat limit.toNat s.taking) :=
        asks (h := fun _ => doAccountSet account.toNat flags.toNat limit.toNat) htag ht rfl rfl ⟨Nat.le_refl 6, Nat.le_refl 6⟩
      exact ⟨fun h => hset.refused (doAccountSet_badField hs h), fun a ha hf => hset.followed (doAccountSet_of hs ha hf)⟩
  case clear =>
    intro freed
    refine ⟨fun h => creditClear_stays hj h, ?_⟩
    intro hst hh hp hs joined
    refine ⟨fun b hpin hb => ?_, ?_⟩
    · rw [creditClear_queues hj hst hh hp, joinQueue_pinned (f := Job.creditCleared) (fun _ => rfl) hj (by simp [Job.creditCleared, hst])
        hpin hb (slotless_runPort hs)]
      rfl
    · intro hpin t q
      rw [creditClear_queues hj hst hh hp, joinQueue_dest (f := Job.creditCleared) (fun _ => rfl) hj (by simp [Job.creditCleared, hst])
        (.inl hpin) (slotless_runPort hs)]
      have hmod : (s.modJob n fun j => { j.creditCleared with queueEntry := some s.clock }).modJob n
          (fun j => { j with state := .queued }) = s.modJob n joined := modJob_modJob fun _ => rfl
      exact congrArg (fun v => ((v.setQueue j.dest q).noteJob n .credit, [Task.offer n])) hmod

end Sys2Proof.Machine
end

section
/-! PROOF. TARIFF_CUTOVER and the schedule (R126 to R129). -/

namespace Sys2Proof.Machine

variable {s : State}

theorem consistent_of {x : Tariff} (h : x.check = 0) : x.consistent = true := by simp [Tariff.consistent, h]

theorem consistent_eq_false {x : Tariff} (h : x.check ≠ 0) : x.consistent = false := by simp [Tariff.consistent, h]

/-! ### The requests -/

theorem doCutover_of {action flags time : Nat} {close : Bool} (hs : s.ss.saving = none) (hf : flag? flags = some close) :
    doCutover action flags time s = match action with
    | 0 =>
      if time ≠ 0 then .error .badField
      else if !s.cfg.staged.consistent then .error .invalidTariff
      else accept (cutover close 0 s).1 (cutover close 0 s).2
    | 1 => accept { s with cfg := { s.cfg with schedule := some { time := time, close := close } } }
    | 2 =>
      if time ≠ 0 ∨ close then .error .badField
      else if s.cfg.schedule.isNone then .error .already
      else accept { s with cfg := { s.cfg with schedule := none } }
    | _ => .error .badField := by
  rw [doCutover, unlessSaving_of_none hs, hf]
  rfl

theorem doCutover_badFlags {action flags time : Nat} (hs : s.ss.saving = none) (h : 1 < flags) :
    doCutover action flags time s = .error .badField := by
  rw [doCutover, unlessSaving_of_none hs]
  exact field_none (flag?_eq_none h) _

variable {close : Bool} {flags time : Nat}

theorem doCutover_now_badField (hs : s.ss.saving = none) (hf : flag? flags = some close) (ht : time ≠ 0) :
    doCutover 0 flags time s = .error .badField := (doCutover_of hs hf).trans (if_pos ht)

theorem doCutover_now_invalid (hs : s.ss.saving = none) (hf : flag? flags = some close) (hc : s.cfg.staged.check ≠ 0) :
    doCutover 0 flags 0 s = .error .invalidTariff := by
  rw [doCutover_of hs hf]
  simp [consistent_eq_false hc]

theorem doCutover_now (hs : s.ss.saving = none) (hf : flag? flags = some close) (hc : s.cfg.staged.check = 0) :
    doCutover 0 flags 0 s = .ok { st := (cutover close 0 s).1, tasks := (cutover close 0 s).2 } := by
  rw [doCutover_of hs hf]
  simp [consistent_of hc, accept]

theorem doCutover_at (hs : s.ss.saving = none) (hf : flag? flags = some close) : doCutover 1 flags time s
    = .ok { st := { s with cfg := { s.cfg with schedule := some { time := time, close := close } } } } :=
  doCutover_of hs hf

theorem doCutover_cancel (hs : s.ss.saving = none) (hc : s.cfg.schedule ≠ none) : doCutover 2 0 0 s
    = .ok { st := { s with cfg := { s.cfg with schedule := none } } } := by
  rw [doCutover_of hs (close := false) rfl]
  simp [hc, accept]

theorem doCutover_cancel_already (hs : s.ss.saving = none) (hc : s.cfg.schedule = none) :
    doCutover 2 0 0 s = .error .already := by
  rw [doCutover_of hs (close := false) rfl]
  simp [hc]

theorem doCutover_cancel_badField (hs : s.ss.saving = none) (hf : flag? flags = some close) (h : time ≠ 0 ∨ close = true) :
    doCutover 2 flags time s = .error .badField := (doCutover_of hs hf).trans (if_pos h)

/-! ### A schedule that falls due -/

theorem dueNext_of {x : Schedule} (hx : s.cfg.schedule = some x) (h : x.time ≤ s.nextClock) : s.dueNext = true := by
  rw [State.dueNext, hx]
  exact decide_eq_true h

theorem clock_countSecond : (countSecond s).clock = s.nextClock := by
  show (evalHorn _).mlc.clock = _
  rw [evalHorn_frame.1]

/-- SHOP_CLOCK_TICK and CUTOVER_SCHEDULE_DUE are one event when the schedule falls due (log 12). -/
theorem ends_due {x : Schedule} (hx : s.cfg.schedule = some x) (h : x.time ≤ s.nextClock) {w : State} {ts : List Task}
    (hdue : scheduleDue x (countSecond (openAct s)) = (w, ts)) :
    Ends .cutoverScheduleDue s (cascade ts w) ∧ Ends .shopClockTick s (cascade ts w) := by
  have hexam : examineSchedule (countSecond (openAct s)) = (w, ts) := by
    have hclock : (countSecond (openAct s)).clock = s.nextClock := clock_countSecond
    have hsched : (countSecond (openAct s)).cfg.schedule = some x := by simpa [countSecond] using hx
    rw [examineSchedule, hsched]
    simp only [hclock, h, if_true, hdue]
  have hdue' : (openAct s).dueNext = true :=
    dueNext_of hx h
  constructor
  · show Host.Outcome.next (closeAct (if (openAct s).dueNext then examineSchedule (countSecond (openAct s)) else (openAct s, []))) = _
    rw [if_pos hdue', hexam]
    rfl
  · show Host.Outcome.next (closeAct (examineSchedule (countSecond (openAct s)))) = _
    rw [hexam]
    rfl

theorem scheduleDue_fails {x : Schedule} (h : s.cfg.staged.check ≠ 0) : scheduleDue x s
    = (({ s with cfg := { s.cfg with schedule := none } } : State).note 0x73
        (tariffEvent s.cfg.staged.check 1 false), []) := by
  simp [scheduleDue, consistent_eq_false h]

theorem scheduleDue_cuts {x : Schedule} (h : s.cfg.staged.check = 0) : scheduleDue x s
    = cutover x.close 1 { s with cfg := { s.cfg with schedule := none } } := by
  simp [scheduleDue, consistent_of h]

/-- The contents of a TARIFF_EVENT of a cutover that failed (R129). -/
theorem tariffEvent_failed {reason source : Nat} (h : reason ≠ 0) :
    tariffEvent reason source false = [1, BitVec.ofNat 8 reason, BitVec.ofNat 8 source, 0] := by
  simp [tariffEvent, h, bit, be8]

/-- Settles O48. -/
theorem cutovers : Obligations.Cutovers := by
  intro s moved closed clears
  refine ⟨fun tag flags time htag ht hs => ?requests, fun x hx h => ?due⟩
  case requests =>
    intro now sched stop i
    have hnow : Asks i s now (doCutover 0 flags.toNat time.toNat s.taking) :=
      asks (h := fun _ => doCutover 0 flags.toNat time.toNat) htag ht rfl rfl ⟨Nat.le_refl 6, Nat.le_refl 6⟩
    have hat : Asks (.tariffCutoverAt tag flags time) s sched (doCutover 1 flags.toNat time.toNat s.taking) :=
      asks (h := fun _ => doCutover 1 flags.toNat time.toNat) htag ht rfl rfl ⟨Nat.le_refl 6, Nat.le_refl 6⟩
    have hstop : Asks (.tariffCutoverCancel tag flags time) s stop (doCutover 2 flags.toNat time.toNat s.taking) :=
      asks (h := fun _ => doCutover 2 flags.toNat time.toNat) htag ht rfl rfl ⟨Nat.le_refl 6, Nat.le_refl 6⟩
    have htime : time ≠ 0 → time.toNat ≠ 0 := fun h h0 => h (by bv_omega)
    refine ⟨fun hf h => hnow.refused (doCutover_now_badField hs (flag?_byte hf) (htime h)), ?_, ?_, ?_, ?_, ?_, ?_, ?_, ?_⟩
    · intro hf h0 hc
      subst h0
      exact hnow.refused (doCutover_now_invalid hs (flag?_byte hf) hc)
    · intro hf h0 hc
      subst hf h0
      exact hnow.answers (doCutover_now (s := s.taking) (close := false) hs rfl hc)
    · intro hf h0 hc
      subst hf h0
      exact hnow.followed (doCutover_now (s := s.taking) (close := true) hs rfl hc)
    · exact fun hf => hat.answers (doCutover_at hs (flag?_byte hf))
    · intro hf h0 hc
      subst hf h0
      exact hstop.answers (doCutover_cancel (s := s.taking) hs hc)
    · intro hf h0 hc
      subst hf h0
      exact hstop.refused (doCutover_cancel_already (s := s.taking) hs hc)
    · rintro (h | ⟨h, h0⟩)
      · exact hstop.refused (doCutover_cancel_badField hs (flag?_byte (by rw [h]; decide)) (.inr (by simp [h])))
      · exact hstop.refused (doCutover_cancel_badField hs (flag?_byte (by rw [h]; decide)) (.inl (htime h0)))
    · intro h
      exact ⟨hnow.refused (doCutover_badFlags hs h), hat.refused (doCutover_badFlags hs h),
        hstop.refused (doCutover_badFlags hs h)⟩
  case due =>
    intro t1 t ends
    have hcfg : t1.cfg = s.cfg := by simp [t1, countSecond]
    have hdue {w : State} {ts : List Task} (hw : scheduleDue x t1 = (w, ts)) : ends (cascade ts w) := ends_due hx h hw
    refine ⟨fun hc => ?_, fun hc hclose => ?_, fun hc hclose => ?_⟩
    · have := hdue (scheduleDue_fails (by rw [hcfg]; exact hc))
      rw [cascade_nil, hcfg, tariffEvent_failed hc] at this
      exact this
    · have := hdue (w := (moved t).note 0x73 [0, 0, 1, 0]) (ts := [])
        (by rw [scheduleDue_cuts (by rw [hcfg]; exact hc), hclose]; rfl)
      rwa [cascade_nil] at this
    · refine hdue ?_
      rw [scheduleDue_cuts (by rw [hcfg]; exact hc), hclose]
      rfl

end Sys2Proof.Machine
end

section
/-! PROOF. PORT_SET for a press port (R107). -/

namespace Sys2Proof.Machine

variable {s t : State} {p q : PortNo} {x y : Port}

/-! ### A port written whole -/

theorem setPort_setPort : (s.setPort p x).setPort p y = s.setPort p y := by
  simp [State.setPort]

theorem modPort_setPort {f : Port → Port} : (s.setPort p x).modPort p f = s.setPort p (f x) := by
  rw [State.modPort, setPort_setPort, port_setPort, if_pos rfl]

theorem modPort_modPort {f g : Port → Port} : (s.modPort p f).modPort p g = s.modPort p (fun x => g (f x)) :=
  modPort_setPort

/-! ### The checks -/

theorem portSetFits_iff {window wake idle rate : Nat} : portSetFits window wake idle rate = true
    ↔ 1 ≤ window ∧ window ≤ 32 ∧ wake ≠ 0 ∧ idle ≠ 0 ∧ rate ≠ 0 := by
  simp [portSetFits, Nat.one_le_iff_ne_zero, and_assoc]

theorem doPortSet_badField {port window progress wake idle rate slowFloor lampMode : Nat} (hs : s.ss.saving = none)
    (h : 16 < port ∨ port < 16 ∧ (portSetFits window wake idle rate = false ∨ 1 < lampMode)) :
    doPortSet port window progress wake idle rate slowFloor lampMode s = .error .badField := by
  rw [doPortSet, if_neg (by omega), unlessSaving_of_none hs]
  refine field_badField fun p hp => ?_
  rcases h with h | ⟨-, h | h⟩
  · cases (portNo?_eq_none (by omega)).symm.trans hp
  · refine field_badField fun b _ => ?_
    simp [h]
  · exact field_none (flag?_eq_none h) _

theorem doPortSet_of {port window progress wake idle rate slowFloor lampMode : Nat} {lamp : Bool} (hs : s.ss.saving = none)
    (hp : port = p.val) (hl : flag? lampMode = some lamp) (hfits : portSetFits window wake idle rate = true) :
    doPortSet port window progress wake idle rate slowFloor lampMode s
      = .ok { st := applyPortSet p { window := window, progress := progress, wake := wake, idle := idle, rate := rate
                                     slowFloor := slowFloor, lampHost := lamp } s
              tasks := [.dispatch p, .settle] } := by
  have hlt := p.isLt
  rw [doPortSet, if_neg (by omega), unlessSaving_of_none hs, hp, field_some (portNo?_val p)]
  refine (field_some hl _).trans ?_
  simp [hfits, accept]

/-- Two bytes joined are a 16-bit field. -/
theorem toNat_append_byte (a b : Byte) : (a ++ b).toNat = a.toNat * 256 + b.toNat := by
  rw [BitVec.toNat_append, ← Nat.shiftLeft_add_eq_or_of_lt b.isLt, Nat.shiftLeft_eq]

theorem halfBytes_append (a b : Byte) : halfBytes (a ++ b) = [a, b] := by
  have ha : BitVec.ofNat 8 ((a.toNat * 256 + b.toNat) / 256) = a := by
    rw [show (a.toNat * 256 + b.toNat) / 256 = a.toNat by omega]
    simp
  have hb : BitVec.ofNat 8 (a.toNat * 256 + b.toNat) = b := by
    apply BitVec.eq_of_toNat_eq
    rw [BitVec.toNat_ofNat]
    omega
  simp only [halfBytes, toNat_append_byte, be16, ha, hb]

/-! ### The settings replaced -/

/-- The settings of port `p` replaced, with the window and rate window of an UP link (R99, R105). -/
theorem applyPortSet_eq (c : PortSettings) : applyPortSet p c s = evalLamps p ((s.setPortCfg p c).setPort p
    (if (s.port p).link = .up then { s.port p with
        effWindow := max (min c.window ((s.port p).maxWindow.getD 0)) (s.port p).inFlight.length
        rateCount := 0, busy := (s.port p).usable && s.runRunning p }
      else { s.port p with effWindow := 0 })) := by
  have hrefresh : refreshWindow p (s.setPortCfg p c) = (s.setPortCfg p c).setPort p { s.port p with
      effWindow := (s.port p).windowNow c.window } := by
    unfold refreshWindow State.modPort
    rw [show (s.setPortCfg p c).port p = s.port p from rfl, portCfg_setPortCfg, if_pos rfl]
  have hrun (x : Port) (hx : x.run = (s.port p).run) : ((s.setPortCfg p c).setPort p x).runRunning p = s.runRunning p := by
    unfold State.runRunning State.runJob
    rw [port_setPort, if_pos rfl, hx]
    rfl
  unfold applyPortSet
  dsimp only
  rw [hrefresh, port_setPort, if_pos rfl]
  by_cases hup : (s.port p).link = .up
  · rw [if_pos hup, if_pos hup, startRateWindow, modPort_setPort]
    unfold State.busyNow
    rw [hrun _ (by rfl), port_setPort, if_pos rfl]
    rw [show (s.port p).windowNow c.window = _ from if_pos hup]
    rfl
  · rw [if_neg hup, if_neg hup]
    simp only [Port.windowNow, hup, if_false]

/-- Settles O39. -/
theorem portSetSets : Obligations.PortSetSets := by
  intro tag port window progress wake idle rate slowFloor lampMode s htag ht hs i f fits
  have ha : Asks i s f (doPortSet port.toNat window.toNat progress.toNat wake.toNat idle.toNat rate.toNat slowFloor.toNat
      lampMode.toNat s.taking) :=
    asks (h := fun _ => doPortSet port.toNat window.toNat progress.toNat wake.toNat idle.toNat rate.toNat slowFloor.toNat
      lampMode.toNat) htag ht rfl rfl ⟨Nat.le_refl 8, Nat.le_refl 8⟩
  have hfits : fits ↔ portSetFits window.toNat wake.toNat idle.toNat rate.toNat = true ∧ lampMode.toNat ≤ 1 := by
    have hne (b : Byte) : b.toNat ≠ 0 ↔ b ≠ 0 := by rw [ne_eq, ne_eq, ← BitVec.toNat_inj]; rfl
    rw [portSetFits_iff, hne, hne, hne]
    tauto
  refine ⟨fun hbad => ha.refused (doPortSet_badField hs ?_), ?_, ?_⟩
  · refine hbad.imp_right fun h => ⟨h.1, ?_⟩
    by_contra hcon
    simp only [not_or, Bool.not_eq_false, Nat.not_lt] at hcon
    exact h.2 (hfits.mpr hcon)
  · intro h16
    subst h16
    show Host.Outcome.next (hostRequest _ _ _ _ _) = .next (hostRequest _ _ _ _ _)
    rw [halfBytes_append, halfBytes_append, toNat_append_byte, toNat_append_byte]
    rfl
  · intro p hp hf c x y
    obtain ⟨hrange, hlamp⟩ := hfits.mp hf
    have hok := ha.followed (doPortSet_of hs hp (flag?_byte hlamp) hrange)
    rw [applyPortSet_eq] at hok
    exact hok

end Sys2Proof.Machine
end

section
/-! PROOF. The wake table, and what a link that leaves UP for DOWN loses (R90, R94 to R96). -/

namespace Sys2Proof.Machine

variable {s t : State} {p q : PortNo} {x : Port} {k : AlertKind}

/-! ### A port that becomes as given -/

theorem notePort_modPort {f : Port → Port} : (s.notePort q).modPort p f = (s.modPort p f).notePort q := by
  unfold State.notePort
  rw [show (s.modPort p f).notes = s.notes by simp]
  split <;> rfl

theorem portBecomes_modPort {f : Port → Port} : (s.portBecomes p x).modPort p f = s.portBecomes p (f x) := by
  rw [State.portBecomes, notePort_modPort, modPort_setPort]
  rfl

/-- A link that changes its state, and the window that goes with it (R93, R99). -/
theorem setLink_eq {l : Link} (h : (s.port p).link ≠ l) : setLink p l s = s.portBecomes p { s.port p with
    link := l, effWindow := { s.port p with link := l }.windowNow (s.portCfg p).window } := by
  have hcfg : ((s.modPort p fun x => { x with link := l }).notePort p).portCfg p = s.portCfg p := by
    simp [State.portCfg]
  rw [setLink, if_neg h, refreshWindow, hcfg, notePort_modPort, modPort_modPort]
  rfl

/-- A link that goes to another state than UP has no window (R99). -/
theorem setLink_notUp {l : Link} (h : (s.port p).link ≠ l) (hl : l ≠ .up) :
    setLink p l s = s.portBecomes p { s.port p with link := l, effWindow := 0 } := by
  rw [setLink_eq h, show Port.windowNow { s.port p with link := l } (s.portCfg p).window = 0 from if_neg hl]

theorem goDown_eq (h : (s.port p).link ≠ .down) : goDown p s = s.portBecomes p { s.port p with
    link := .down, effWindow := 0, forceOff := false, wakeTimer := none, hailTimer := false
    attempt := none, idleTimer := none } := by
  rw [goDown, setLink_notUp h (by decide), portBecomes_modPort]

theorem enterWaking_eq (h : (s.port p).link ≠ .waking) : enterWaking p s = (s.portBecomes p { s.port p with
    link := .waking, hailTimer := true, wakeTimer := some (s.portCfg p).wake, effWindow := 0 }).send p
      { kind := 0x01, tag := 0, payload := [] } := by
  rw [enterWaking, setLink_notUp h (by decide), portBecomes_modPort]
  rfl

/-! ### Demand and the table -/

/-- What gives a port demand (R69, R95). -/
theorem demand_iff : demand s p = true ↔ (s.port p).run ≠ none ∨ (s.port p).susp ≠ none ∨ (s.port p).inc ≠ none
    ∨ (s.port p).pinnedQ ≠ [] ∨ ∃ d n j, (s.dest d).enabled = true ∧ p ∈ (s.dest d).members ∧ n ∈ s.queue d
      ∧ s.job? n = some j ∧ ((s.port p).caps = none ∨ (s.port p).canServe j = true) := by
  have hwake : wakeDemand s p = true ↔ ∃ d n j, (s.dest d).enabled = true ∧ p ∈ (s.dest d).members ∧ n ∈ s.queue d
      ∧ s.job? n = some j ∧ ((s.port p).caps = none ∨ (s.port p).canServe j = true) := by
    unfold wakeDemand
    simp only [List.any_eq_true, Bool.and_eq_true, List.contains_iff_mem]
    constructor
    · rintro ⟨d, -, ⟨he, hm⟩, n, hn, h⟩
      cases hj : s.job? n with
      | none => simp [hj] at h
      | some j => exact ⟨d, n, j, he, hm, hn, hj, by simpa [hj] using h⟩
    · rintro ⟨d, n, j, he, hm, hn, hj, hs⟩
      exact ⟨d, List.mem_finRange d, ⟨he, hm⟩, n, hn, by simpa [hj] using hs⟩
  unfold demand
  simp only [Bool.or_eq_true, hwake, Option.isSome_iff_ne_none, Bool.not_eq_true', List.isEmpty_eq_false_iff, or_assoc]

section Table

variable {m : WakeMode}

theorem wakeTable_wakes (h : (s.port p).link = .down)
    (hm : (s.port p).wakeMode = .forceOn ∨ (s.port p).wakeMode = .auto ∧ demand s p = true) :
    wakeTable p s = enterWaking p s := by
  rw [wakeTable, h]
  rcases hm with hm | ⟨hm, hd⟩
  · rw [hm]
  · rw [hm]
    exact if_pos hd

theorem wakeTable_rests (h : (s.port p).link = .down)
    (hm : (s.port p).wakeMode = .forceOff ∨ (s.port p).wakeMode = .auto ∧ demand s p = false) : wakeTable p s = s := by
  rw [wakeTable, h]
  rcases hm with hm | ⟨hm, hd⟩
  · rw [hm]
  · rw [hm]
    exact if_neg (by simp [hd])

theorem wakeTable_away (h : (s.port p).link = .waking ∨ (s.port p).link = .recovering ∨ (s.port p).link = .offline) :
    wakeTable p s = if (s.port p).wakeMode = .forceOff then goDown p s else s := by
  unfold wakeTable
  rcases h with h | h | h <;> rw [h] <;> cases (s.port p).wakeMode <;> rfl

/-- An UP link with sheets in flight waits for them under FORCE_OFF (R94). -/
theorem wakeTable_pending (h : (s.port p).link = .up) (hl : (s.port p).inFlight ≠ []) (hm : (s.port p).wakeMode = .forceOff) :
    wakeTable p s = s.modPort p (fun x => { x with idleTimer := none, forceOff := true }) := by
  rw [wakeTable, h]
  refine (if_neg (by simpa using hl)).trans ?_
  rw [hm]

theorem wakeTable_inFlight (h : (s.port p).link = .up) (hl : (s.port p).inFlight ≠ []) (hm : (s.port p).wakeMode ≠ .forceOff) :
    wakeTable p s = s.modPort p (fun x => { x with idleTimer := none }) := by
  rw [wakeTable, h]
  refine (if_neg (by simpa using hl)).trans ?_
  split
  · contradiction
  · rfl

theorem wakeTable_busy (h : (s.port p).link = .up) (hl : (s.port p).inFlight = [])
    (hm : (s.port p).wakeMode = .forceOn ∨ (s.port p).wakeMode = .auto ∧ demand s p = true) :
    wakeTable p s = s.modPort p (fun x => { x with idleTimer := none }) := by
  rw [wakeTable, h]
  refine (if_pos (by simp [hl])).trans ?_
  rcases hm with hm | ⟨hm, hd⟩
  · rw [hm]
  · rw [hm]
    exact if_pos hd

theorem wakeTable_idle (h : (s.port p).link = .up) (hl : (s.port p).inFlight = []) (hm : (s.port p).wakeMode = .auto)
    (hd : demand s p = false) : wakeTable p s
      = s.modPort p (fun x => { x with idleTimer := some (x.idleTimer.getD (s.portCfg p).idle) }) := by
  rw [wakeTable, h]
  refine (if_pos (by simp [hl])).trans ?_
  rw [hm]
  exact if_neg (by simp [hd])

theorem wakeTable_off (h : (s.port p).link = .up) (hl : (s.port p).inFlight = []) (hm : (s.port p).wakeMode = .forceOff) :
    wakeTable p s = leaveUpDown p s := by
  rw [wakeTable, h]
  refine (if_pos (by simp [hl])).trans ?_
  rw [hm]

end Table

/-! ### A link that leaves UP for DOWN -/

theorem port_alertMove_away {e : EntryNo} {a : Alert} {l : List EntryNo} {r : Bool} {c : Nat} (h : portOf e ≠ some q) :
    (alertMove e a l r c s).port q = s.port q := by
  obtain ⟨-, -, -, -, -, -, -, -, -, -, -, -, -, -, -, -, -, -, hq, -⟩ := alertMove_moves e a l r c s
  exact hq q h

theorem port_alertOff_away {e : EntryNo} (h : portOf e ≠ some q) : (alertOff e s).port q = s.port q := by
  unfold alertOff
  dsimp only
  repeat' split
  · exact port_alertMove_away h
  · exact port_alertMove_away h
  · exact port_alertMove_away h
  · rfl
  · rfl

theorem Conds.set_self {c : Conds} {v : Bool} (h : k ≠ .spoolLow → c.get k = v) : c.set k v = c := by
  cases k
  case spoolLow => rfl
  all_goals
    rw [← h (by decide)]
    rfl

theorem port_condOff_away (hk : k ≠ .spoolLow) (hq : q ≠ p) : (condOff p k s).port q = s.port q := by
  unfold condOff
  split
  · rw [port_alertOff_away (by rw [portOf_entryNo p k hk]; exact fun h => hq (Option.some.inj h).symm), port_modPort, if_neg hq]
  · rfl

/-- What the end of a condition makes of its port: the condition and the lamps (R111, R154). -/
theorem port_condOff_self (k : AlertKind) :
    ∃ l, (condOff p k s).port p = { s.port p with lamps := l, conds := (s.port p).conds.set k false } := by
  unfold condOff
  split
  · obtain ⟨l, hl⟩ := port_alertOff (s.modPort p fun x => { x with conds := x.conds.set k false }) (entryNo p k) p
    exact ⟨l, by rw [hl, port_modPort, if_pos rfl]⟩
  · next h => exact ⟨(s.port p).lamps, by rw [Conds.set_self fun _ => by simpa using h]⟩

theorem port_setCondition (p : PortNo) (r j d : Bool) (m : Byte) (q : PortNo) : (setCondition p r j d m s).port q
    = if q = p then { s.port p with ready := r, jammed := j, doorOpen := d, mediaEmpty := m } else s.port q := by
  unfold setCondition
  dsimp only
  split
  · next h =>
    obtain ⟨rfl, rfl, rfl, rfl⟩ := h
    split
    · next hq => rw [hq]
    · rfl
  · rw [show ((s.modPort p fun x => { x with ready := r, jammed := j, doorOpen := d, mediaEmpty := m }).notePort p).port q
      = (s.modPort p fun x => { x with ready := r, jammed := j, doorOpen := d, mediaEmpty := m }).port q by simp [State.port],
      port_modPort]
    split
    · next hq => rw [hq]
    · rfl

/-- What the link's leaving UP makes of its port (R90). -/
theorem port_clearUp : ∃ l, (clearUp p s).port p = { s.port p with
    ready := false, doorOpen := false, mediaEmpty := 0, rateCount := 0, busy := false, idleTimer := none, watchdog := none
    transfer := [], conds := { (s.port p).conds with door := false, mediaOut := false, slow := false }, lamps := l } := by
  obtain ⟨t, ht⟩ : ∃ t, t = setCondition p false (s.port p).jammed false 0 s := ⟨_, rfl⟩
  obtain ⟨l1, h1⟩ := port_condOff_self (s := t) (p := p) .door
  obtain ⟨l2, h2⟩ := port_condOff_self (s := condOff p .door t) (p := p) .mediaOut
  obtain ⟨l3, h3⟩ := port_condOff_self (s := condOff p .mediaOut (condOff p .door t)) (p := p) .slow
  refine ⟨l3, ?_⟩
  unfold clearUp
  dsimp only
  rw [← ht, port_modPort, if_pos rfl, h3, h2, h1, ht, port_setCondition, if_pos rfl]
  rfl

theorem port_clearUp_away (hq : q ≠ p) : (clearUp p s).port q = s.port q := by
  unfold clearUp
  dsimp only
  rw [port_modPort, if_neg hq, port_condOff_away (by decide) hq, port_condOff_away (by decide) hq,
    port_condOff_away (by decide) hq, port_setCondition, if_neg hq]

theorem port_portBecomes : (s.portBecomes p x).port q = if q = p then x else s.port q := by
  rw [State.portBecomes, show ((s.setPort p x).notePort p).port q = (s.setPort p x).port q by simp [State.port], port_setPort]

theorem port_goDown (h : (s.port p).link ≠ .down) : (goDown p s).port q = if q = p then { s.port p with
    link := .down, effWindow := 0, forceOff := false, wakeTimer := none, hailTimer := false
    attempt := none, idleTimer := none } else s.port q := by
  rw [goDown_eq h, port_portBecomes]

/-- Settles O42. -/
theorem wakeTableApplied : Obligations.WakeTableApplied := by
  intro s p x
  refine ⟨demand_iff, fun hl hm => ?_, wakeTable_rests, fun hl => ⟨fun hm => ?_, fun hm => ?_⟩, fun hl => ⟨fun hf => ?_,
    fun hf hm => wakeTable_busy hl hf hm, fun hf hm hd => wakeTable_idle hl hf hm hd, fun hf hm => wakeTable_off hl hf hm, ?_⟩⟩
  · rw [wakeTable_wakes hl hm, enterWaking_eq (by rw [show (s.port p).link = _ from hl]; decide)]
  · rw [wakeTable_away hl, if_neg hm]
  · rw [wakeTable_away hl, if_pos hm, goDown_eq]
    rcases hl with h | h | h <;> simp [x] at h <;> simp [h]
  · by_cases hm : (s.port p).wakeMode = .forceOff
    · rw [wakeTable_pending hl hf hm, show (x.forceOff || decide (x.wakeMode = .forceOff)) = true by simp [x, hm]]
      rfl
    · rw [wakeTable_inFlight hl hf hm, show (x.forceOff || decide (x.wakeMode = .forceOff)) = x.forceOff by simp [x, hm]]
      rfl
  · intro t y
    have hne : (s.port p).link ≠ .down := by rw [show (s.port p).link = _ from hl]; decide
    obtain ⟨l, hy⟩ := port_clearUp (s := goDown p s) (p := p)
    rw [port_goDown hne, if_pos rfl] at hy
    have hyt : y = _ := hy
    rw [hyt]
    refine ⟨rfl, rfl, rfl, rfl, rfl, rfl, rfl, rfl, rfl, rfl, rfl, rfl, rfl, rfl, rfl, fun q hq => ?_, by simp [t], by simp [t]⟩
    show (clearUp p (goDown p s)).port q = _
    rw [port_clearUp_away hq, port_goDown hne, if_neg hq]

end Sys2Proof.Machine
end

section
/-! PROOF. PORT_WAKE, PORT_PAUSE, PORT_UNPAUSE and the panel PAUSE and UNPAUSE (R94, R97, R98). -/

namespace Sys2Proof.Machine

variable {s t : State} {p : PortNo}

/-! ### The actions of a panel -/

section Panel

variable {i : Instr} {a : Fin 8} {level : Rights} {code number : Byte} {argument : Half}

/-- A panel's action that its owner accepts, with the tasks that follow. -/
theorem panelThen_of {contents : List Byte} {u : State} {ts : List Task} (hi : exec i s = .next (act (onAnswer (BitVec.ofNat 8 a.val) code number argument) s))
    (h : s.awaits a level number code) (hc : code ≠ 0)
    (hr : panelAction a code.toNat argument.toNat (s.heard a) = .ok { contents := contents, st := u, tasks := ts }) :
    Ends i s (cascade (ts ++ [.note 0x74 ([BitVec.ofNat 8 a.val, 2, code] ++ be16 argument.toNat ++ [0])])
      (u.recorded a number code argument.toNat .ok)) := by
  have hnote : panelEvent a 2 code.toNat argument.toNat Status.ok.code
      = [BitVec.ofNat 8 a.val, 2, code] ++ be16 argument.toNat ++ [0] := by simp [panelEvent, be8, Status.code]
  rw [Ends, hi, onAnswer_ok h hc hr, hnote, closeAct]

/-- A panel's action that its owner accepts, and nothing follows. -/
theorem panelDoes_of {contents : List Byte} {f : State → State} (hi : exec i s = .next (act (onAnswer (BitVec.ofNat 8 a.val) code number argument) s))
    (h : s.awaits a level number code) (hc : code ≠ 0)
    (hr : panelAction a code.toNat argument.toNat (s.heard a) = .ok { contents := contents, st := f (s.heard a) }) :
    PanelDoes i s a number code argument.toNat id f := by
  have hthen := panelThen_of hi h hc hr
  rw [List.nil_append, cascade_note] at hthen
  exact hthen

theorem panelRefused_of {e : Status} (hi : exec i s = .next (act (onAnswer (BitVec.ofNat 8 a.val) code number argument) s))
    (h : s.awaits a level number code) (hc : code ≠ 0)
    (hr : panelAction a code.toNat argument.toNat (s.heard a) = .error e) :
    PanelRefused i s a number code argument.toNat e := by
  rw [PanelRefused, Ends, hi, onAnswer_error h hc hr, closeAct, cascade_note, panelNote_eq]

/-- An action in range and within the panel's rights is its owner's to decide (R162). -/
theorem panelAction_owner {code argument : Nat} (hr : actionInRange code argument = true)
    (hl : (leastLevel code).code ≤ (s.panelCfg a).rights.code) :
    panelAction a code argument s = ownerAction a code argument s := by
  rw [panelAction, hr]
  exact (if_neg (by decide)).trans (if_neg (by omega))

end Panel

/-! ### Becoming usable -/

/-- The tasks of a port that has become usable, and the floor brought up to date (R92). -/
theorem usableTasks_settle (h : s.port p = t.port p) (w : State) : usableTasks p s w ++ [.settle]
    = if (t.port p).usable = false ∧ (w.port p).usable = true then [.pull p, .dispatch p, .settle] else [.settle] := by
  unfold usableTasks
  rw [h]
  cases (t.port p).usable <;> cases (w.port p).usable <;> rfl

theorem wakeMode?_code (m : WakeMode) : wakeMode? m.code = some m := by cases m <;> rfl

theorem wakeMode?_eq_none {n : Nat} (h : 2 < n) : wakeMode? n = none := by
  obtain ⟨k, rfl⟩ := Nat.exists_eq_add_of_lt h
  rw [show 2 + k + 1 = k + 3 by omega]
  rfl

/-! ### The host's requests -/

theorem doPortWake_badField {port mode : Nat} (h : 15 < port ∨ 2 < mode) : doPortWake port mode s = .error .badField := by
  refine field_badField fun p hp => ?_
  rcases h with h | h
  · cases (portNo?_eq_none h).symm.trans hp
  · exact field_none (wakeMode?_eq_none h) _

variable {port : Nat}

theorem doPortWake_of (hp : port = p.val) (m : WakeMode) : doPortWake port m.code s
    = if (s.port p).wakeMode = m then .error .already
      else accept (applyWake p m s) (usableTasks p s (applyWake p m s) ++ [.settle]) :=
  (field_some (by rw [hp]; exact portNo?_val p) _).trans (field_some (wakeMode?_code m) _)

theorem doPortPause_of (hp : port = p.val) : doPortPause port s
    = if (s.port p).pauseHost then .error .already
      else accept (settlePort p (s.modPort p (fun x => { x with pauseHost := true }))) :=
  field_some (by rw [hp]; exact portNo?_val p) _

theorem doPortUnpause_already (hp : port = p.val) (h1 : (s.port p).pauseHost = false) (h2 : (s.port p).pausePanel = false) :
    doPortUnpause port s = .error .already :=
  (field_some (by rw [hp]; exact portNo?_val p) _).trans (if_pos (by simp [h1, h2]))

theorem doPortUnpause_of (hp : port = p.val) (h : (s.port p).pauseHost = true ∨ (s.port p).pausePanel = true) :
    doPortUnpause port s = .ok {
      st := s.modPort p (fun x => { x with pauseHost := false, pausePanel := false })
      tasks := usableTasks p s (s.modPort p (fun x => { x with pauseHost := false, pausePanel := false })) ++ [.settle] } :=
  (field_some (by rw [hp]; exact portNo?_val p) _).trans (if_neg (by rcases h with h | h <;> simp [h]))

/-! ### The panel's actions -/

theorem panelAction_pause {a : Fin 8} (hp : port = p.val) (hl : Rights.floor.code ≤ (s.panelCfg a).rights.code) :
    panelAction a 3 port s = panelPauses p s := by
  have := p.isLt
  rw [panelAction_owner (code := 3) (by subst hp; simp [actionInRange]; omega) hl]
  exact field_some (by rw [hp]; exact portNo?_val p) _

theorem panelAction_unpause {a : Fin 8} (hp : port = p.val) (hl : Rights.floor.code ≤ (s.panelCfg a).rights.code) :
    panelAction a 4 port s = panelUnpauses p s := by
  have := p.isLt
  rw [panelAction_owner (code := 4) (by subst hp; simp [actionInRange]; omega) hl]
  exact field_some (by rw [hp]; exact portNo?_val p) _

/-- Settles O41. -/
theorem wakeAndPause : Obligations.WakeAndPause := by
  refine ⟨fun tag port mode s htag ht => ⟨fun h => ?_, fun h => ⟨?_, ?_⟩⟩, ?_⟩
  · exact (asks (h := fun _ => doPortWake port.toNat mode.toNat) htag ht rfl rfl ⟨Nat.le_refl 2, Nat.le_refl 2⟩ :
      Asks (.portWake tag port mode) s ⟨0x22, tag, [port, mode]⟩ _).refused (doPortWake_badField h)
  · exact (asks (h := fun _ => doPortPause port.toNat) htag ht rfl rfl ⟨Nat.le_refl 1, Nat.le_refl 1⟩ :
      Asks (.portPause tag port) s ⟨0x23, tag, [port]⟩ _).refused (field_none (portNo?_eq_none h) _)
  · exact (asks (h := fun _ => doPortUnpause port.toNat) htag ht rfl rfl ⟨Nat.le_refl 1, Nat.le_refl 1⟩ :
      Asks (.portUnpause tag port) s ⟨0x24, tag, [port]⟩ _).refused (field_none (portNo?_eq_none h) _)
  intro tag port s p htag ht hp then_
  have hthen (w : State) : usableTasks p s.taking w ++ [.settle] = then_ w := usableTasks_settle (by simp) w
  refine ⟨?wake, ?pause, ?unpause, ?panel⟩
  case wake =>
    intro mode m hm f w
    have ha : Asks (.portWake tag port mode) s f (doPortWake port.toNat mode.toNat s.taking) :=
      asks (h := fun _ => doPortWake port.toNat mode.toNat) htag ht rfl rfl ⟨Nat.le_refl 2, Nat.le_refl 2⟩
    rw [hm, doPortWake_of hp, port_taking] at ha
    refine ⟨fun h => ha.refused (if_pos h), fun h => ?_⟩
    have hok := ha.followed (if_neg h)
    rw [hthen] at hok
    exact hok
  case pause =>
    intro f
    have ha : Asks (.portPause tag port) s f (doPortPause port.toNat s.taking) :=
      asks (h := fun _ => doPortPause port.toNat) htag ht rfl rfl ⟨Nat.le_refl 1, Nat.le_refl 1⟩
    rw [doPortPause_of hp, port_taking] at ha
    exact ⟨fun h => ha.refused (if_pos h), fun h => ha.answers (if_neg (by simp [h]))⟩
  case unpause =>
    intro f w
    have ha : Asks (.portUnpause tag port) s f (doPortUnpause port.toNat s.taking) :=
      asks (h := fun _ => doPortUnpause port.toNat) htag ht rfl rfl ⟨Nat.le_refl 1, Nat.le_refl 1⟩
    refine ⟨fun h1 h2 => ha.refused (doPortUnpause_already hp (by simpa using h1) (by simpa using h2)), fun h => ?_⟩
    have hok := ha.followed (doPortUnpause_of hp (by simpa using h))
    rw [hthen] at hok
    exact hok
  case panel =>
    intro a number argument harg b
    refine ⟨fun haw => ?_, fun haw => ?_⟩
    · have hact := panelAction_pause (s := s.heard a) (a := a) harg (by simpa using haw.2.2.1)
      rw [panelPauses, port_heard] at hact
      rw [← harg]
      exact ⟨fun h => panelRefused_of rfl haw (by decide) (hact.trans (if_pos h)),
        fun h => panelDoes_of rfl haw (by decide) (hact.trans (if_neg (by simp [h])))⟩
    · have hact := panelAction_unpause (s := s.heard a) (a := a) harg (by simpa using haw.2.2.1)
      rw [panelUnpauses, port_heard] at hact
      rw [← harg]
      refine ⟨fun h => panelRefused_of rfl haw (by decide) (hact.trans (if_pos (by simp [h]))), ?_⟩
      intro h w
      have hok := panelThen_of (i := .panelUnpause b number argument) rfl haw (by decide) (hact.trans (if_neg (by simp [h])))
      rw [usableTasks_settle (t := s) (by simp) w] at hok
      exact hok

end Sys2Proof.Machine
end

section
/-! PROOF. Lamps and horn, and the alert, lamp and horn commands (R152 to R157). -/

namespace Sys2Proof.Machine

variable {s t : State} {e : EntryNo} {p : PortNo}

/-! ### What the lamps show (R154) -/

theorem anyEntry_iff {ks : List AlertKind} {f : AlertState → Bool} :
    s.anyEntry p ks f = true ↔ ∃ k ∈ ks, f (s.alert (entryNo p k)).state = true := by
  simp [State.anyEntry]

theorem red_flash_iff : (s.lampsNow p).red = .flash
    ↔ s.anyEntry p latchedKinds (fun a => a == .raised || a == .linger) = true := by
  unfold State.lampsNow
  cases s.anyEntry p latchedKinds (fun a => a == .raised || a == .linger)
  · cases s.anyEntry p latchedKinds (fun a => a == .acked) <;> simp
  · simp

theorem red_steady_iff : (s.lampsNow p).red = .steady
    ↔ ¬ s.anyEntry p latchedKinds (fun a => a == .raised || a == .linger) = true
      ∧ s.anyEntry p latchedKinds (fun a => a == .acked) = true := by
  unfold State.lampsNow
  cases s.anyEntry p latchedKinds (fun a => a == .raised || a == .linger)
  · cases s.anyEntry p latchedKinds (fun a => a == .acked) <;> simp
  · simp

theorem amber_steady_iff : (s.lampsNow p).amber = .steady
    ↔ s.anyEntry p selfClearingKinds (fun a => a == .raised || a == .acked) = true
      ∨ (s.port p).pauseHost = true ∨ (s.port p).pausePanel = true ∨ (s.port p).wakeMode = .forceOff := by
  unfold State.lampsNow
  dsimp only
  split
  · next h => simpa [or_assoc] using h
  · next h => simpa [or_assoc] using h

theorem amber_ne_flash : (s.lampsNow p).amber ≠ .flash := by
  unfold State.lampsNow
  dsimp only
  split <;> decide

theorem green_steady_iff : (s.lampsNow p).green = .steady ↔ (s.port p).usable = true ∧ s.runRunning p = true := by
  unfold State.lampsNow
  dsimp only
  split
  · next h => simpa using h
  · next h => simpa using h

theorem green_ne_flash : (s.lampsNow p).green ≠ .flash := by
  unfold State.lampsNow
  dsimp only
  split <;> decide

theorem runRunning_iff : s.runRunning p = true
    ↔ ∃ n j, (s.port p).run = some n ∧ s.job? n = some j ∧ j.state = .running := by
  unfold State.runRunning State.runJob
  cases (s.port p).run with
  | none => simp
  | some n => cases hj : s.job? n <;> simp [hj]

/-! ### The end of an escalation time (R156) -/

theorem ends_escalation {w : State} (h : escalate e (openAct s) = w) : Ends (.escalationReached e) s w := by
  show Host.Outcome.next (closeAct (escalate e (openAct s), [])) = _
  rw [h, closeAct, cascade_nil]

theorem escalate_nothing (h : (s.alert e).state ≠ .raised ∨ s.cfg.escalation = 0
    ∨ s.nextIncrement < (s.alert e).raisedAt + s.cfg.escalation * Config.second) : escalate e s = s := by
  unfold escalate Alert.escalatesAt
  refine if_neg fun ⟨h1, h2, h3⟩ => ?_
  rcases h with h | h | h
  · exact h h1
  · exact h2 h
  · omega

/-- The horn sounds at that moment unless it is silenced. -/
theorem escalate_sounds (h1 : (s.alert e).state = .raised) (h2 : s.cfg.escalation ≠ 0)
    (h3 : (s.alert e).raisedAt + s.cfg.escalation * Config.second ≤ s.nextIncrement) :
    escalate e s = { s with
      base := { s.base with now := max s.base.now ((s.alert e).raisedAt + s.cfg.escalation * Config.second) }
      au := { s.au with horn := !s.au.silenced } } := by
  obtain ⟨u, hu⟩ : ∃ u : State, u = { s with
      base := { s.base with now := max s.base.now ((s.alert e).raisedAt + s.cfg.escalation * Config.second) } } := ⟨_, rfl⟩
  have hhorn : u.hornNow = !s.au.silenced := by
    rw [Bool.eq_iff_iff, hornNow_iff, hu]
    simp only [Bool.not_eq_true']
    exact ⟨fun h => h.2.1, fun h => ⟨h2, h, e, h1, Nat.le_max_right _ _⟩⟩
  have hesc : escalate e s = evalHorn u := by
    rw [hu]
    exact if_pos ⟨h1, h2, h3⟩
  rw [hesc, evalHorn, hhorn, hu]

/-! ### Silence and acknowledgement -/

/-- A silenced horn is off. -/
theorem doSilence_of (h : s.au.silenced = false) : doSilence s
    = .ok { st := { s with au := { s.au with silenced := true, horn := false } } } := by
  have hhorn : ({ s with au := { s.au with silenced := true } } : State).hornNow = false := by
    rw [Bool.eq_false_iff]
    intro hh
    obtain ⟨-, hs, -⟩ := hornNow_iff.mp hh
    cases hs
  rw [doSilence, if_neg (by simp [h]), evalHorn, hhorn]
  rfl

theorem doSilence_already (h : s.au.silenced = true) : doSilence s = .error .already := if_pos h

theorem doAckOne_already {b : AckBy} (h : (s.alert e).state = .quiet ∨ (s.alert e).state = .acked) :
    doAckOne b e s = .error .already := if_neg (by rcases h with h | h <;> simp [Alert.ackable, h])

theorem doAckOne_of {b : AckBy} (h : (s.alert e).state = .raised ∨ (s.alert e).state = .linger) :
    doAckOne b e s = .ok { contents := be8 ((alertAck e b s).alert e).state.code, st := alertAck e b s } :=
  if_pos (by rcases h with h | h <;> simp [Alert.ackable, h])

theorem alert_alertMove (e : EntryNo) (a : Alert) (l : List EntryNo) (r : Bool) (c : Nat) (s : State) :
    (alertMove e a l r c s).alert e = a := (alertMove_moves e a l r c s).1

/-- RAISED goes to ACKED, LINGER to QUIET (R148). -/
theorem state_alertAck_raised {b : AckBy} (h : (s.alert e).state = .raised) : ((alertAck e b s).alert e).state = .acked := by
  unfold alertAck
  dsimp only
  rw [h, alert_alertMove]

theorem state_alertAck_linger {b : AckBy} (h : (s.alert e).state = .linger) : ((alertAck e b s).alert e).state = .quiet := by
  unfold alertAck
  dsimp only
  rw [h, alert_alertMove]

theorem entryNo?_val (e : EntryNo) : entryNo? e.val = some e := dif_pos e.isLt

theorem entryNo?_eq_none {n : Nat} (h : 112 < n) : entryNo? n = none := dif_neg (by omega)

theorem doAlertAck_one {n : Nat} (h : n = e.val) : doAlertAck n s = doAckOne .host e s := by
  have := e.isLt
  rw [doAlertAck, if_neg (by omega), h]
  exact field_some (entryNo?_val e) _

theorem doAlertAck_badField {n : Nat} (h : 112 < n) (h' : n ≠ 255) : doAlertAck n s = .error .badField := by
  rw [doAlertAck, if_neg h']
  exact field_none (entryNo?_eq_none h) _

/-- The acknowledgements, by the host and by a panel, act on the entry they name. -/
theorem panelAction_ack {a : Fin 8} {n : Nat} (h : n = e.val) (hl : Rights.ack.code ≤ (s.panelCfg a).rights.code) :
    panelAction a 1 n s = doAckOne (.panel a) e s := by
  have := e.isLt
  rw [panelAction_owner (code := 1) (by simp [actionInRange]; omega) hl, h]
  exact field_some (entryNo?_val e) _

theorem panelAction_silence {a : Fin 8} {n : Nat} (hl : Rights.ack.code ≤ (s.panelCfg a).rights.code) :
    panelAction a 2 n s = doSilence s := panelAction_owner (code := 2) rfl hl

/-! ### ALERT_QUERY (R153) -/

theorem entryReport_eq (e : EntryNo) : s.entryReport e
    = [BitVec.ofNat 8 e.val, BitVec.ofNat 8 (s.alert e).state.code, BitVec.ofNat 8 ((if (s.alert e).on then 1 else 0)
          + (if (s.alert e).detail.isSome then 2 else 0) + (if (s.alert e).ackedBy.isSome then 4 else 0))]
        ++ be32 (s.alert e).raiseTime ++ [BitVec.ofNat 8 (s.alert e).raiseCount] ++ be32 ((s.alert e).detail.getD 0)
        ++ [match (s.alert e).ackedBy with
            | none => 255
            | some .host => 8
            | some (.panel q) => BitVec.ofNat 8 q.val] := by
  have hflags (a b c : Bool) : flagByte [a, b, c] = (if a then 1 else 0) + (if b then 2 else 0) + (if c then 4 else 0) := by
    cases a <;> cases b <;> cases c <;> rfl
  unfold State.entryReport
  dsimp only
  rw [hflags]
  cases (s.alert e).ackedBy with
  | none => rfl
  | some b => cases b <;> rfl

theorem entryReport_length (e : EntryNo) : (s.entryReport e).length = 13 := by
  simp [State.entryReport, be8, be32, be16]

theorem portEntries_eq : ∀ p : PortNo, portEntries p = (List.finRange 113).filter (fun e => decide (e.val / 7 = p.val)) := by
  decide

theorem doAlertQuery_one {n : Nat} (h : n = e.val) : doAlertQuery n s = report s (s.entryReport e) := by
  have := e.isLt
  rw [doAlertQuery, if_neg (by omega), if_pos (by omega), h]
  exact field_some (entryNo?_val e) _

theorem doAlertQuery_port {n : Nat} (h : n = 128 + p.val) : doAlertQuery n s = report s (s.lampReport p) := by
  have := p.isLt
  rw [doAlertQuery, if_neg (by omega), if_neg (by omega), show n - 128 = p.val by omega]
  exact field_some (portNo?_val p) _

theorem doAlertQuery_badField {n : Nat} (h : 112 < n ∧ n < 128 ∨ 143 < n ∧ n ≠ 255) : doAlertQuery n s = .error .badField := by
  rw [doAlertQuery, if_neg (by omega)]
  rcases h with h | h
  · rw [if_pos h.2]
    exact field_none (entryNo?_eq_none h.1) _
  · rw [if_neg (by omega)]
    exact field_none (portNo?_eq_none (by omega)) _

/-! ### LAMP_MODE and LAMP_SET (R155) -/

theorem doLampMode_badField {port mode : Nat} (hs : s.ss.saving = none) (h : 15 < port ∨ 1 < mode) :
    doLampMode port mode s = .error .badField := by
  rw [doLampMode, unlessSaving_of_none hs]
  refine field_badField fun p hp => ?_
  rcases h with h | h
  · cases (portNo?_eq_none h).symm.trans hp
  · exact field_none (flag?_eq_none h) _

theorem doLampMode_of {port mode : Nat} {host : Bool} (hs : s.ss.saving = none) (hp : port = p.val) (hm : flag? mode = some host) :
    doLampMode port mode s = if (s.portCfg p).lampHost = host then .error .already
      else accept (evalLamps p (s.setPortCfg p { s.portCfg p with lampHost := host })) := by
  rw [doLampMode, unlessSaving_of_none hs, field_some (by rw [hp]; exact portNo?_val p)]
  exact field_some hm _

theorem evalLamps_host {c : PortSettings} (h : c.lampHost = true) : evalLamps p (s.setPortCfg p c) = s.setPortCfg p c :=
  if_pos (by simpa using h)

theorem evalLamps_auto {c : PortSettings} (h : c.lampHost = false) : evalLamps p (s.setPortCfg p c)
    = (s.setPortCfg p c).modPort p (fun x => { x with lamps := s.lampsNow p }) :=
  if_neg (by simpa using h)

theorem lamp?_code (l : Lamp) : lamp? l.code = some l := by cases l <;> rfl

theorem lamp?_eq_none {n : Nat} (h : 2 < n) : lamp? n = none := by
  obtain ⟨k, rfl⟩ := Nat.exists_eq_add_of_lt h
  rw [show 2 + k + 1 = k + 3 by omega]
  rfl

theorem doLampSet_badField {port red amber green : Nat} (h : 15 < port ∨ 2 < red ∨ 2 < amber ∨ 2 < green) :
    doLampSet port red amber green s = .error .badField := by
  refine field_badField fun p hp => field_badField fun r hr => field_badField fun a ha => ?_
  rcases h with h | h | h | h
  · cases (portNo?_eq_none h).symm.trans hp
  · cases (lamp?_eq_none h).symm.trans hr
  · cases (lamp?_eq_none h).symm.trans ha
  · exact field_none (lamp?_eq_none h) _

theorem doLampSet_of {port red amber green : Nat} {r a g : Lamp} (hp : port = p.val) (hr : red = r.code) (ha : amber = a.code)
    (hg : green = g.code) : doLampSet port red amber green s = if !(s.portCfg p).lampHost then .error .wrongState
      else accept (s.modPort p (fun x => { x with lamps := { red := r, amber := a, green := g } })) := by
  subst hp hr ha hg
  exact (field_some (portNo?_val p) _).trans ((field_some (lamp?_code r) _).trans
    ((field_some (lamp?_code a) _).trans (field_some (lamp?_code g) _)))

/-- Settles O51. -/
theorem alertCommands : Obligations.AlertCommands := by
  intro s report quieted
  refine ⟨?lamps, ?escalation, ?panel, ?host⟩
  case lamps =>
    intro p l some_ latched x
    refine ⟨red_flash_iff.trans (anyEntry_iff.trans ?_), red_steady_iff.trans (and_congr (not_congr (anyEntry_iff.trans ?_))
      (anyEntry_iff.trans ?_)), amber_steady_iff.trans (or_congr (anyEntry_iff.trans ?_) Iff.rfl), amber_ne_flash,
      green_steady_iff.trans (and_congr Iff.rfl runRunning_iff), green_ne_flash⟩
    all_goals simp [some_, latched, latchedKinds, selfClearingKinds]
  case escalation =>
    intro e u moment next
    have hnext : (openAct s).nextIncrement = next := by simp [State.nextIncrement, next]
    exact ⟨fun h => ends_escalation (escalate_nothing h), fun h1 h2 h3 => ends_escalation (escalate_sounds h1 h2 h3)⟩
  case panel =>
    intro a number argument b
    refine ⟨fun haw => ?_, fun haw e he => ?_⟩
    · have hact := panelAction_silence (s := s.heard a) (a := a) (n := argument.toNat) (by simpa using haw.2.2.1)
      exact ⟨fun h => panelRefused_of rfl haw (by decide) (hact.trans (doSilence_already (by simpa using h))),
        fun h => panelDoes_of rfl haw (by decide) (hact.trans (doSilence_of (by simpa using h)))⟩
    · have hact := panelAction_ack (s := s.heard a) (a := a) he (by simpa using haw.2.2.1)
      rw [← he]
      exact ⟨fun h => panelRefused_of rfl haw (by decide) (hact.trans (doAckOne_already (by simpa [State.alert] using h))),
        fun h => panelDoes_of (f := alertAck e (.panel a)) rfl haw (by decide)
          (hact.trans (doAckOne_of (by simpa [State.alert] using h)))⟩
  case host =>
    intro tag htag ht
    have halert (e : EntryNo) : s.taking.alert e = s.alert e := by simp [State.alert]
    have hreport (e : EntryNo) : s.taking.entryReport e = report e := entryReport_eq (s := s.taking) e
    refine ⟨?silence, fun entry => ?ack, fun selector => ?query, fun port mode hs => ?mode, fun port red amber green => ?set⟩
    case silence =>
      have ha : Asks (.hornSilence tag) s ⟨0x32, tag, []⟩ (doSilence s.taking) :=
        asks (h := fun _ => doSilence) htag ht rfl rfl ⟨Nat.le_refl 0, Nat.le_refl 0⟩
      exact ⟨fun h => ha.refused (doSilence_already (by simpa using h)), fun h => ha.answers (doSilence_of (by simpa using h))⟩
    case ack =>
      intro i f
      have ha : Asks i s f (doAlertAck entry.toNat s.taking) :=
        asks (h := fun _ => doAlertAck entry.toNat) htag ht rfl rfl ⟨Nat.le_refl 1, Nat.le_refl 1⟩
      refine ⟨fun e he => ⟨fun h => ?_, fun h => ?_, fun h => ?_⟩, fun h h0 => ?_, fun h h0 => ?_, fun h h' => ?_⟩
      · exact ha.refused ((doAlertAck_one he).trans (doAckOne_already (by rw [halert]; exact h)))
      · have hst := (halert e).symm ▸ h
        have hok := (doAlertAck_one he).trans (doAckOne_of (b := .host) (.inl hst))
        rw [state_alertAck_raised hst] at hok
        exact ha.answers hok
      · have hst := (halert e).symm ▸ h
        have hok := (doAlertAck_one he).trans (doAckOne_of (b := .host) (.inr hst))
        rw [state_alertAck_linger hst] at hok
        exact ha.answers hok
      · subst h
        exact ha.refused ((if_pos rfl).trans (if_pos (by simp [h0])))
      · subst h
        have hok := ha.answers ((if_pos rfl).trans (if_neg (by simp [h0])))
        simpa [be8, ackAll] using hok
      · exact ha.refused (doAlertAck_badField h fun h255 => h' (by bv_omega))
    case query =>
      intro i f
      have ha : Asks i s f (doAlertQuery selector.toNat s.taking) :=
        asks (h := fun _ => doAlertQuery selector.toNat) htag ht rfl rfl ⟨Nat.le_refl 1, Nat.le_refl 1⟩
      refine ⟨fun e he => ⟨?_, ha.answers ?_⟩, ?_, fun h => ?_, fun h => ha.refused (doAlertQuery_badField ?_)⟩
      · rw [← hreport]
        exact entryReport_length e
      · rw [doAlertQuery_one he, hreport]
        rfl
      · intro p hp l
        refine ha.answers ?_
        rw [doAlertQuery_port hp, State.lampReport, portEntries_eq, show s.taking.entryReport = report from funext hreport]
        simp [Lamps.report, be8, bit, l, Machine.report, apply_ite (BitVec.ofNat 8)]
      · subst h
        refine ha.answers ((if_pos rfl).trans ?_)
        simp [State.hornReport, be8, bit, Machine.report, apply_ite (BitVec.ofNat 8)]
        exact List.map_eq_flatMap.symm
      · exact h.imp id fun h => ⟨h.1, fun h255 => h.2 (by bv_omega)⟩
    case mode =>
      intro i f
      have ha : Asks i s f (doLampMode port.toNat mode.toNat s.taking) :=
        asks (h := fun _ => doLampMode port.toNat mode.toNat) htag ht rfl rfl ⟨Nat.le_refl 2, Nat.le_refl 2⟩
      refine ⟨fun h => ha.refused (doLampMode_badField hs h), fun p hp hm => ?_⟩
      rw [doLampMode_of (s := s.taking) hs hp (flag?_byte hm), portCfg_taking] at ha
      refine ⟨fun h => ha.refused (if_pos h), fun h h1 => ?_, fun h h0 => ?_⟩
      · subst h1
        have hok := ha.answers (if_neg (by simp [h]))
        rwa [evalLamps_host rfl] at hok
      · subst h0
        have hok := ha.answers (if_neg (by simp [h]))
        rwa [evalLamps_auto rfl] at hok
    case set =>
      intro i f
      have ha : Asks i s f (doLampSet port.toNat red.toNat amber.toNat green.toNat s.taking) :=
        asks (h := fun _ => doLampSet port.toNat red.toNat amber.toNat green.toNat) htag ht rfl rfl
          ⟨Nat.le_refl 4, Nat.le_refl 4⟩
      refine ⟨fun h => ha.refused (doLampSet_badField h), fun p r a g hp hr hab hg => ?_⟩
      rw [doLampSet_of hp hr hab hg, portCfg_taking] at ha
      exact ⟨fun h => ha.refused (if_pos (by simp [h])), fun h => ha.answers (if_neg (by simp [h]))⟩

end Sys2Proof.Machine
end

section
/-! PROOF. The panel bus: polls, misses, good replies, and actions refused (R160 to R163). -/

namespace Sys2Proof.Machine

variable {s : State} {a : Fin 8}

/-! ### Polls -/

/-- Panel `a` is due in a round (R160). -/
theorem pollDue_iff : s.pollDue a = true ↔ (s.panelCfg a).fitted = true
    ∧ ((s.panel a).present = true ∨ ∀ t ∈ (s.panel a).polledAt, t + 2 * Config.second ≤ s.base.now) := by
  unfold State.pollDue
  cases (s.panel a).polledAt <;> simp

/-- In the list of the panels, the first one that passes a test is found. -/
theorem find_panel {f : Fin 8 → Bool} (ha : f a = true) (hb : ∀ b < a, f b = false) : (List.finRange 8).find? f = some a := by
  rw [List.find?_eq_some_iff_getElem]
  refine ⟨ha, a.val, by simp, by simp, fun j hj => ?_⟩
  simpa using hb ⟨j, by omega⟩ hj

theorem find_panel_none {f : Fin 8 → Bool} (h : ∀ b, f b = false) : (List.finRange 8).find? f = none := by
  simp [List.find?_eq_none, h]

theorem nextPoll_none (h : ∀ b, s.pollDue b = false) : s.nextPoll = none := by
  unfold State.nextPoll
  rw [find_panel_none (by simp [h]), find_panel_none h]

/-- The next panel due in what is left of the round, else the first in a new one (R160). -/
theorem nextPoll_eq (ha : s.pollDue a = true)
    (h : (s.pbc.roundNext ≤ a.val ∧ ∀ b < a, s.pbc.roundNext ≤ b.val → s.pollDue b = false)
      ∨ ((∀ b : Fin 8, s.pbc.roundNext ≤ b.val → s.pollDue b = false) ∧ ∀ b < a, s.pollDue b = false)) :
    s.nextPoll = some a := by
  unfold State.nextPoll
  rcases h with ⟨hround, hb⟩ | ⟨hround, hb⟩
  · rw [find_panel (a := a) (by simp [hround, ha])]
    intro b hba
    by_cases hr : s.pbc.roundNext ≤ b.val
    · simp [hb b hba hr]
    · simp [hr]
  · rw [find_panel_none, find_panel ha hb]
    intro b
    by_cases hr : s.pbc.roundNext ≤ b.val
    · simp [hround b hr]
    · simp [hr]

theorem pollNext_none (h : s.pbc.awaiting ≠ none ∨ s.nextPoll = none) : pollNext s = s := by
  unfold pollNext
  split
  · next h1 h2 =>
    rcases h with h | h
    · exact absurd h1 h
    · cases h.symm.trans h2
  · rfl

theorem pollNext_some (h1 : s.pbc.awaiting = none) (h2 : s.nextPoll = some a) : pollNext s = pollPanel a s := by
  rw [pollNext, h1, h2]

theorem ends_poll {w : State} (h : pollNext (openAct s) = w) : Ends .poll s w := by
  show Host.Outcome.next (closeAct (pollNext (openAct s), [])) = _
  rw [h, closeAct, cascade_nil]

/-- The port byte of the head entry: 255 for SPOOL_LOW (R160). -/
theorem portByte_eq : ∀ e : EntryNo, be8 ((portOf e).map (fun p => p.val) |>.getD 255)
    = [if e.val = 112 then 255 else BitVec.ofNat 8 (e.val / 7)] := by decide

theorem headReport_eq : s.headReport = match s.au.announced with
    | [] => [255, 255, 0, 255, 0, 0, 0, 0, 0, 0, 0, 0]
    | e :: _ => [BitVec.ofNat 8 e.val, BitVec.ofNat 8 (kindOf e).code, BitVec.ofNat 8 (s.alert e).state.code,
        if e.val = 112 then 255 else BitVec.ofNat 8 (e.val / 7)] ++ be32 (s.alert e).raiseTime
      ++ be32 ((s.alert e).detail.getD 0) := by
  unfold State.headReport
  cases s.au.announced with
  | nil => rfl
  | cons e l =>
    dsimp only
    rw [portByte_eq]
    rfl

theorem headLabels_eq : s.headLabels = match s.au.announced.head?.bind portOf with
    | some p => ((List.finRange 32).filter (fun d => (s.dest d).members.contains p)).map (fun d => (s.dest d).label)
    | none => [] := by
  unfold State.headLabels State.labelsOf
  cases s.au.announced with
  | nil => rfl
  | cons e l =>
    cases hp : portOf e <;> simp [hp] <;> rfl

/-- The payload of a POLL (Table 11-3, R160). -/
theorem pollPayload_eq : s.pollPayload a = [BitVec.ofNat 8 s.au.announced.length] ++ s.headReport
    ++ [BitVec.ofNat 8 s.headLabels.length] ++ s.headLabels.flatMap (fun l => l ++ List.replicate (16 - l.length) 0)
    ++ [BitVec.ofNat 8 ((if s.au.horn then 1 else 0) + (if s.au.silenced then 2 else 0))]
    ++ (match (s.panel a).lastAction with
        | none => [0, 0, 0, 0, 255]
        | some r => [r.number, r.code] ++ be16 r.argument ++ [BitVec.ofNat 8 r.result]) := by
  unfold State.pollPayload
  rw [flagByte_pair]
  simp only [be8, bit, mul_ite, mul_one, mul_zero]
  cases (s.panel a).lastAction <;> rfl

/-! ### Misses -/

section Miss

theorem miss_absent (h : (s.panel a).present = false) : miss a s = endExchange s := by
  unfold miss
  exact if_pos (by simpa [endExchange, State.panel] using h)

theorem miss_counts (h : (s.panel a).present = true) (hm : (s.panel a).misses < 2) :
    miss a s = (endExchange s).setPanel a { s.panel a with misses := (s.panel a).misses + 1 } := by
  have h1 : (endExchange s).panel a = s.panel a := rfl
  unfold miss
  dsimp only
  rw [h1, if_neg (by simp [h]), if_neg (by omega)]

theorem miss_third (h : (s.panel a).present = true) (hm : 2 ≤ (s.panel a).misses) :
    miss a s = ((endExchange s).setPanel a { s.panel a with present := false, misses := 0 }).note 0x74
      [BitVec.ofNat 8 a.val, 1, 0, 0, 0, 0] := by
  have h1 : (endExchange s).panel a = s.panel a := rfl
  unfold miss
  dsimp only
  rw [h1, if_neg (by simp [h]), if_pos hm]
  rfl

/-- What a miss makes of the panel awaited, by a command that ends in one (R161). -/
theorem missed_of {i : Instr} (hi : exec i s = .next (closeAct (miss a (openAct s), []))) :
    ((s.panel a).present = false → Ends i s (endExchange (openAct s)))
    ∧ ((s.panel a).present = true → (s.panel a).misses < 2 →
        Ends i s ((endExchange (openAct s)).setPanel a { s.panel a with misses := (s.panel a).misses + 1 }))
    ∧ ((s.panel a).present = true → 2 ≤ (s.panel a).misses → Ends i s
        (((endExchange (openAct s)).setPanel a { s.panel a with present := false, misses := 0 }).note 0x74
          [BitVec.ofNat 8 a.val, 1, 0, 0, 0, 0])) := by
  have hends : Ends i s (miss a (openAct s)) := by rw [Ends, hi, closeAct, cascade_nil]
  refine ⟨fun h => ?_, fun h hm => ?_, fun h hm => ?_⟩
  · rwa [miss_absent (s := openAct s) h] at hends
  · rwa [miss_counts (s := openAct s) h hm] at hends
  · rwa [miss_third (s := openAct s) h hm] at hends

theorem act_timeout {poll : Frame} (h : s.pbc.awaiting = some { panel := a, poll := poll }) : exec .pollReplyTimeout s
    = .next (closeAct (miss a (openAct s), [])) := by
  show Host.Outcome.next (closeAct (onTimeout (openAct s), [])) = _
  rw [onTimeout, show (openAct s).pbc.awaiting = _ from h]

theorem onAnswer_other {poll : Frame} {tag code number : Byte} {argument : Half} (h : s.pbc.awaiting = some { panel := a, poll := poll })
    (ht : tag.toNat ≠ a.val) : onAnswer tag code number argument s = (miss a s, []) := by
  rw [onAnswer, h]
  exact if_neg ht

/-- A frame that is no good reply is a miss (R161). -/
theorem onReplyFrame_bad {poll : Frame} {checkHolds : Bool} {kind tag : Byte} {payload : List Byte}
    (h : s.pbc.awaiting = some { panel := a, poll := poll })
    (hbad : ¬ (checkHolds = true ∧ kind = 0x61 ∧ tag.toNat = a.val ∧ payload.length = 4)) :
    onReplyFrame checkHolds kind tag payload s = (miss a s, []) := by
  rw [onReplyFrame, h]
  dsimp only
  split
  · split
    · next hk =>
      refine onAnswer_other h fun ht => hbad ⟨hk.1, hk.2, ht, rfl⟩
    · rfl
  · rfl

end Miss

/-! ### Good replies -/

section Reply

variable {i : Instr} {code number : Byte} {argument : Half} {poll : Frame}

theorem onAnswer_awaited (h : s.pbc.awaiting = some { panel := a, poll := poll }) :
    onAnswer (BitVec.ofNat 8 a.val) code number argument s = decideAnswer a code number argument.toNat (goodReply a s) := by
  rw [onAnswer, h]
  exact if_pos (by simp; omega)

/-- The good reply of a panel that was ABSENT (R161, R163). -/
theorem goodReply_absent (h : (s.panel a).present = false) : goodReply a (openAct s)
    = (s.heard a).note 0x74 [BitVec.ofNat 8 a.val, 0, 0, 0, 0, 0] := by
  have h1 : (endExchange (openAct s)).panel a = s.panel a := rfl
  unfold goodReply
  dsimp only
  rw [h1, if_neg (by simp [h])]
  rfl

theorem ends_answer {w : State} (hi : exec i s = .next (act (onAnswer (BitVec.ofNat 8 a.val) code number argument) s))
    (h : s.pbc.awaiting = some { panel := a, poll := poll })
    (hw : decideAnswer a code number argument.toNat (goodReply a (openAct s)) = (w, [])) : Ends i s w := by
  rw [Ends, hi, act, onAnswer_awaited (s := openAct s) h, hw, closeAct, cascade_nil]

theorem decideAnswer_none : decideAnswer a 0 number argument.toNat s = (s, []) := if_pos rfl

theorem decideAnswer_repeats (h : isRepetition (s.panel a) number code = true) (hc : code ≠ 0) :
    decideAnswer a code number argument.toNat s = (s, []) := (if_neg hc).trans (if_pos h)

/-- A repetition of the last action changes nothing more (R162). -/
theorem ends_repetition {r : ActionRecord} (hi : exec i s = .next (act (onAnswer (BitVec.ofNat 8 a.val) r.code r.number argument) s))
    (h : s.pbc.awaiting = some { panel := a, poll := poll }) (hx : (s.panel a).present = true)
    (hr : (s.panel a).lastAction = some r) (hc : r.code ≠ 0) : Ends i s (s.heard a) := by
  refine ends_answer hi h ?_
  rw [goodReply_present hx]
  refine decideAnswer_repeats ?_ hc
  rw [panel_heard, isRepetition]
  dsimp only
  rw [hr]
  simp

/-- The commands of the nine actions are ANSWERs with their codes. -/
theorem exec_panelAction {y : PanelAction} (hy : y ∈ panelActions a number argument) (s : State) :
    exec y.command s = .next (act (onAnswer (BitVec.ofNat 8 a.val) y.code number argument) s) := by
  simp only [panelActions, List.mem_cons, List.not_mem_nil, or_false] at hy
  rcases hy with rfl | rfl | rfl | rfl | rfl | rfl | rfl | rfl | rfl <;> rfl

/-- The range check of an action and the least rights for it (Table 11-2, R162). -/
theorem panelAction_range {y : PanelAction} (hy : y ∈ panelActions a number argument) :
    y.code ≠ 0 ∧ leastLevel y.code.toNat = y.level ∧ (actionInRange y.code.toNat argument.toNat = true
      ↔ (y.code = 1 → argument.toNat ≤ 112) ∧ (y.code = 3 ∨ y.code = 4 → argument.toNat ≤ 15)) := by
  simp only [panelActions, List.mem_cons, List.not_mem_nil, or_false] at hy
  rcases hy with rfl | rfl | rfl | rfl | rfl | rfl | rfl | rfl | rfl <;>
    simp [leastLevel, actionInRange]

theorem actionInRange_bad {code argument : Nat} (h : 9 < code) : actionInRange code argument = false := by
  unfold actionInRange
  split
  · omega
  · omega
  · omega
  · exact decide_eq_false (by omega)

theorem panelAction_badField {code argument : Nat} (h : actionInRange code argument = false) :
    panelAction a code argument s = .error .badField := if_pos (by simp [h])

theorem panelAction_rights {code argument : Nat} (h : actionInRange code argument = true)
    (hr : (s.panelCfg a).rights.code < (leastLevel code).code) : panelAction a code argument s = .error .refusedRights :=
  (if_neg (by simp [h])).trans (if_pos hr)

/-- The state with panel `a` PRESENT already and its "present" notice handed over. -/
def State.woken (s : State) (a : Fin 8) : State :=
  (s.setPanel a { s.panel a with present := true }).note 0x74 [BitVec.ofNat 8 a.val, 0, 0, 0, 0, 0]

theorem panel_woken : (s.woken a).panel a = { s.panel a with present := true } := by
  show (s.setPanel a _).panel a = _
  rw [panel_setPanel, if_pos rfl]

theorem heard_woken : (s.woken a).heard a = (s.heard a).note 0x74 [BitVec.ofNat 8 a.val, 0, 0, 0, 0, 0] := by
  have hopen : openAct (s.woken a) = ((openAct s).setPanel a { s.panel a with present := true }).note 0x74
      [BitVec.ofNat 8 a.val, 0, 0, 0, 0, 0] := rfl
  have hset (t : State) (x y : Panel) : (t.setPanel a x).setPanel a y = t.setPanel a y := by simp [State.setPanel]
  rw [State.heard, panel_woken, hopen]
  exact congrArg (fun v : State => v.note 0x74 [BitVec.ofNat 8 a.val, 0, 0, 0, 0, 0])
    (hset (endExchange (openAct s)) { s.panel a with present := true }
      { s.panel a with present := true, misses := 0, lastReply := some s.mlc.clock })

theorem goodReply_woken (h : (s.panel a).present = false) : goodReply a (openAct (s.woken a)) = goodReply a (openAct s) := by
  rw [goodReply_present (by rw [panel_woken]), goodReply_absent h, heard_woken]

/-- An ABSENT panel's answer is decided as if it had been PRESENT, its notice first (R163). -/
theorem act_woken (hw : s.pbc.awaiting = some { panel := a, poll := poll }) (h : (s.panel a).present = false) :
    act (onAnswer (BitVec.ofNat 8 a.val) code number argument) s
      = act (onAnswer (BitVec.ofNat 8 a.val) code number argument) (s.woken a) := by
  rw [act, act, onAnswer_awaited (s := openAct s) hw, onAnswer_awaited (s := openAct (s.woken a)) hw, goodReply_woken h]

end Reply

/-- Settles O52. -/
theorem panelBus : Obligations.PanelBus := by
  intro s u due
  have hdue (a : Fin 8) : u.pollDue a = true ↔ due a := pollDue_iff (s := u)
  have hdue' (a : Fin 8) : u.pollDue a = false ↔ ¬ due a := by rw [← hdue, Bool.not_eq_true]
  refine ⟨fun h => ends_poll (pollNext_none (h.imp id fun h => nextPoll_none fun b => (hdue' b).mpr (h b))), ?poll, fun h => ?_,
    fun a poll hw => ?_⟩
  case poll =>
    intro a haw ha hround labels head payload t
    have hpoll : pollNext u = pollPanel a u :=
      pollNext_some (s := u) haw (nextPoll_eq (s := u) ((hdue a).mpr ha) (by simp only [hdue']; exact hround))
    have hpayload : u.pollPayload a = payload := by
      rw [pollPayload_eq, headReport_eq, headLabels_eq]
      rfl
    refine ends_poll (hpoll.trans ?_)
    unfold pollPanel State.pollFrame
    rw [hpayload]
    rfl
  · show Host.Outcome.next (closeAct (onTimeout (openAct s), [])) = _
    rw [onTimeout, show (openAct s).pbc.awaiting = none from h, closeAct, cascade_nil]
  intro x b ended missed
  have htag (tag : Byte) : tag = b ↔ tag.toNat = a.val := by
    have := a.isLt
    rw [← BitVec.toNat_inj, show b.toNat = a.val by simp [b]; omega]
  refine ⟨?timeout, ?badFrame, ?none, ?present, ?repetition, ?badCode, ?refused, ?absent⟩
  case timeout => exact missed_of (a := a) (act_timeout hw)
  case badFrame =>
    intro checkHolds kind tag payload hbad
    refine missed_of (a := a) ?_
    show Host.Outcome.next (closeAct (onReplyFrame checkHolds kind tag payload (openAct s))) = _
    rw [onReplyFrame_bad (s := openAct s) hw fun h => hbad ⟨h.1, h.2.1, (htag tag).mpr h.2.2.1, h.2.2.2⟩]
  case none =>
    intro number argument hx
    exact ends_answer rfl hw (by rw [goodReply_present hx, decideAnswer_none])
  case present =>
    intro number argument hx
    exact ends_answer rfl hw (by rw [goodReply_absent hx, decideAnswer_none])
  case repetition =>
    intro r argument hx hr hc
    refine ⟨ends_repetition rfl hw hx hr hc, fun y hy hyc => ?_⟩
    have hexec := exec_panelAction hy s
    rw [hyc] at hexec
    exact ends_repetition hexec hw hx hr hc
  case badCode =>
    intro code number argument haw hc
    exact panelRefused_of rfl haw (by rintro rfl; simp at hc) (panelAction_badField (actionInRange_bad hc))
  case refused =>
    intro number argument y hy haw inRange
    obtain ⟨hc, hlevel, hrange⟩ := panelAction_range hy
    refine ⟨fun h => panelRefused_of (exec_panelAction hy s) haw hc (panelAction_badField ?_), fun h hr =>
      panelRefused_of (exec_panelAction hy s) haw hc (panelAction_rights (hrange.mpr h) ?_)⟩
    · rwa [← Bool.not_eq_true, hrange]
    · rw [hlevel, panelCfg_heard]
      exact hr
  case absent =>
    intro code number argument hx woken i
    refine ⟨congrArg Host.Outcome.next (act_woken hw hx), fun y hy => ?_⟩
    rw [exec_panelAction hy, exec_panelAction hy]
    exact congrArg Host.Outcome.next (act_woken hw hx)

end Sys2Proof.Machine
end

section
/-! PROOF. What an offer, an insertion search and a pull choose (R64, R66, R67, R73, R74, R76, R81). -/

namespace Sys2Proof.Machine

variable {s : State} {p q : PortNo} {n : Nat} {j k : Job} {d : Fin 32}

/-! ### Offers -/

theorem pinnedAt_isSome : j.pinnedAt.isSome = true ↔ j.pinned = true ∧ j.bound ≠ none := by
  unfold Job.pinnedAt
  cases j.pinned <;> simp [Option.isSome_iff_ne_none]

theorem pinnedAt_eq_none : j.pinnedAt = none ↔ j.pinned = false ∨ j.bound = none := by
  unfold Job.pinnedAt
  cases j.pinned <;> simp

theorem offerTakes_iff : offerTakes s j p = true
    ↔ (s.port p).run = none ∧ (s.port p).usable = true ∧ (s.port p).canServe j = true := by
  simp [offerTakes, and_assoc]

theorem insertionFits_iff : insertionFits s j p = true ↔ (s.port p).susp = none ∧ (s.port p).inc = none
    ∧ (s.port p).usable = true ∧ (s.port p).canServe j = true
    ∧ ∃ v k, (s.port p).run = some v ∧ s.job? v = some k ∧ k.rush = false ∧ (k.state = .running ∨ k.state = .starved) := by
  unfold insertionFits State.runJob
  cases (s.port p).run with
  | none => simp
  | some v =>
    cases hv : s.job? v with
    | none => simp [hv]
    | some k =>
      simp [hv]
      tauto

theorem find_split {α : Type} {f : α → Bool} {l r : List α} {a : α} (hl : ∀ b ∈ l, f b = false) (ha : f a = true) :
    (l ++ a :: r).find? f = some a :=
  List.find?_eq_some_iff_append.mpr ⟨ha, l, r, rfl, fun b hb => by simp [hl b hb]⟩

/-- Nothing is offered unless the destination is ENABLED and the job stands in its queue, unpinned (R58, R65). -/
theorem offerJob_closed (hj : s.job? n = some j)
    (h : (s.dest j.dest).enabled = false ∨ n ∉ s.queue j.dest ∨ (j.pinned = true ∧ j.bound ≠ none)) :
    offerJob n s = (s, []) := by
  rw [offerJob, hj]
  refine if_pos ?_
  rcases h with h | h | h
  · simp [h]
  · simp [h]
  · simp [pinnedAt_isSome.mpr h]

section Offer

variable (hj : s.job? n = some j) (he : (s.dest j.dest).enabled = true) (hpin : j.pinned = false ∨ j.bound = none)
  (hq : n ∈ s.queue j.dest)

include hj he hpin hq

theorem offerJob_takes (h : (s.dest j.dest).members.find? (offerTakes s j) = some p) :
    offerJob n s = (enterRun p n (leaveQueue j s), [.dispatch p]) := by
  rw [offerJob, hj]
  refine (if_neg ?_).trans ?_
  · simp [he, hq, pinnedAt_eq_none.mpr hpin]
  · rw [h]

theorem offerJob_searches (h : (s.dest j.dest).members.find? (offerTakes s j) = none) : offerJob n s
    = if j.rush && (s.dest j.dest).insert then
        (((s.dest j.dest).members.find? (insertionFits s j)).map (fun p => insertAt p j s)).getD (s, [])
      else (s, []) := by
  rw [offerJob, hj]
  refine (if_neg ?_).trans ?_
  · simp [he, hq, pinnedAt_eq_none.mpr hpin]
  · rw [h]
    dsimp only
    split
    · cases (s.dest j.dest).members.find? (insertionFits s j) <;> rfl
    · rfl

end Offer

/-! ### The insertion -/

/-- A change of a job's state leaves every port alone but the one whose run slot holds the job (R105). -/
theorem port_setJobState_away {st : JobState} {r : JobReason} (h : s.runPort n ≠ some q) :
    (setJobState n st r s).port q = s.port q := by
  have hport : ((s.modJob n fun j => { j with state := st }).noteJob n r).port q = s.port q := by simp [State.port]
  have hrun : ((s.modJob n fun j => { j with state := st }).noteJob n r).runPort n = s.runPort n :=
    runPort_congr fun q => by simp [State.port]
  unfold setJobState
  split
  · rfl
  · split
    · rfl
    · dsimp only
      rw [hrun]
      split
      · exact hport
      · split
        · next p hp =>
          have hne : q ≠ p := by rintro rfl; exact h hp
          rw [clearBusy, port_modPort, if_neg hne, hport]
        · exact hport

/-- The state in which the incoming slot of port `p` holds job `j`, out of its queue (R74). -/
def State.inserted (s : State) (p : PortNo) (j : Job) : State :=
  setJobState j.num .suspended .port ((leaveQueue j s).modPort p (fun x => { x with inc := some j.num }))

section Insert

variable {v : Nat} (hj : s.job? n = some j) (hpin : j.pinned = false ∨ j.bound = none) (hn : s.slotless n)
  (hrun : s.runsAt p v)

include hj hpin hn

theorem job?_inserted (m : Nat) : (s.inserted p j).job? m
    = if m = n then some { j with queueEntry := none, state := .suspended } else s.job? m := by
  obtain rfl := job?_num hj
  rw [State.inserted, job?_setJobState, job?_modPort, job?_modPort, leaveQueue_dest (pinnedAt_eq_none.mpr hpin),
    job?_modJob (by intro; rfl), job?_modJob (by intro; rfl), job?_setQueue, job?_setQueue, if_pos rfl, hj]
  split <;> rfl

theorem port_inserted (q : PortNo) : (s.inserted p j).port q
    = if q = p then { s.port q with inc := some j.num } else s.port q := by
  obtain rfl := job?_num hj
  have hport (q : PortNo) : ((leaveQueue j s).modPort p fun x => { x with inc := some j.num }).port q
      = if q = p then { s.port q with inc := some j.num } else s.port q := by
    rw [port_modPort, port_leaveQueue_dest (pinnedAt_eq_none.mpr hpin)]
  have hnone : ((leaveQueue j s).modPort p fun x => { x with inc := some j.num }).runPort j.num = none :=
    runPort_none fun q => by
      rw [hport]
      split
      · exact (hn q).1
      · exact (hn q).1
  rw [State.inserted, ← hport]
  exact port_setJobState_away (by rw [hnone]; simp)

include hrun

/-- The run job of the port where room is made begins to drain for the insertion (R74). -/
theorem insertAt_eq : insertAt p j s = beginDrain p v .suspendInsert .port (s.inserted p j) := by
  have hrunp : ((s.inserted p j).port p).run = some v := by
    rw [port_inserted hj hpin hn, if_pos rfl]
    exact (hrun p).mpr rfl
  rw [insertAt, ← State.inserted, hrunp]

end Insert

/-! ### Pulls -/

section Pull

theorem pull_full (h : (s.port p).run ≠ none) : pull p s = (s, []) := pull_nothing (.inl h)

variable (hrun : (s.port p).run = none)

include hrun

theorem pull_incoming (h : (s.port p).inc = some n) :
    pull p s = (enterRun p n (s.modPort p (fun x => { x with inc := none })), [.dispatch p]) := by
  unfold pull
  dsimp only
  rw [if_neg (by simp [hrun]), h]

theorem pull_suspended {why : SuspReason} (hi : (s.port p).inc = none) (h : (s.port p).susp = some { job := n, reason := why })
    (hw : why ≠ .host) :
    pull p s = (enterRun p n (s.modPort p (fun x => { x with susp := none })), [.dispatch p]) := by
  unfold pull
  dsimp only
  rw [if_neg (by simp [hrun]), hi, h]
  exact if_neg hw

theorem pull_queues (hi : (s.port p).inc = none) (h : ∀ u ∈ (s.port p).susp, u.reason = .host) :
    pull p s = pullQueues p s := by
  unfold pull
  dsimp only
  rw [if_neg (by simp [hrun]), hi]
  cases hs : (s.port p).susp with
  | none => rfl
  | some u => exact if_pos (h u (by simp [hs]))

end Pull

theorem pullQueues_unusable (h : (s.port p).usable = false) : pullQueues p s = (s, []) := if_pos (by simp [h])

theorem pullQueues_pinned {rest : List Nat} (h : (s.port p).usable = true) (hq : (s.port p).pinnedQ = n :: rest) :
    pullQueues p s = (enterRun p n (s.modPort p (fun x => { x with pinnedQ := rest })), [.dispatch p]) := by
  unfold pullQueues
  rw [if_neg (by simp [h]), hq]

theorem pullQueues_none (hq : (s.port p).pinnedQ = []) (hb : bestCandidate s p = none) : pullQueues p s = (s, []) := by
  unfold pullQueues
  rw [hq]
  dsimp only
  rw [hb]
  split <;> rfl

theorem pullQueues_best (h : (s.port p).usable = true) (hq : (s.port p).pinnedQ = []) (hb : bestCandidate s p = some (d, j)) :
    pullQueues p s = (enterRun p j.num (s.setQueue d ((s.queue d).erase j.num)), [.dispatch p]) := by
  unfold pullQueues
  rw [if_neg (by simp [h]), hq]
  dsimp only
  rw [hb]
  rfl

/-! ### Candidates -/

/-- Destination `d` puts job `j` forward for port `p`: it is ENABLED and lists the port, and `j` is the first job of its
queue that the port can serve (R67 step 3). -/
def Forward (s : State) (p : PortNo) (d : Fin 32) (j : Job) : Prop :=
  (s.dest d).enabled = true ∧ p ∈ (s.dest d).members
    ∧ ∃ l n r, s.queue d = l ++ n :: r ∧ s.job? n = some j ∧ (s.port p).canServe j = true
      ∧ ∀ m ∈ l, ∀ k, s.job? m = some k → (s.port p).canServe k = false

/-- The port can serve the job numbered `n`. -/
def State.servable (s : State) (p : PortNo) (n : Nat) : Bool :=
  match s.job? n with
  | some j => (s.port p).canServe j
  | none => false

theorem servable_eq_false : s.servable p n = false ↔ ∀ k, s.job? n = some k → (s.port p).canServe k = false := by
  unfold State.servable
  cases s.job? n <;> simp

theorem candidate_unfold : candidate s p d = if (s.dest d).enabled && (s.dest d).members.contains p then
    (((s.queue d).find? (s.servable p)).bind s.job?).map (fun j => (d, j)) else none := rfl

theorem candidate_iff : candidate s p d = some (d, j) ↔ Forward s p d j := by
  rw [candidate_unfold]
  constructor
  · intro h
    split at h
    · next hd =>
      obtain ⟨k, hk, hkj⟩ := Option.map_eq_some_iff.mp h
      cases hkj
      obtain ⟨n, hn, hj⟩ := Option.bind_eq_some_iff.mp hk
      obtain ⟨hserve, l, r, hq, hl⟩ := List.find?_eq_some_iff_append.mp hn
      have hd' : (s.dest d).enabled = true ∧ p ∈ (s.dest d).members := by simpa using hd
      refine ⟨hd'.1, hd'.2, l, n, r, hq, hj, ?_, fun m hm => servable_eq_false.mp (by simpa using hl m hm)⟩
      simpa [State.servable, hj] using hserve
    · cases h
  · rintro ⟨he, hm, l, n, r, hq, hj, hserve, hl⟩
    rw [if_pos (by simp [he, hm]), hq, find_split (fun m hm => servable_eq_false.mpr (hl m hm)) (by simp [State.servable, hj, hserve])]
    simp [hj]

/-- A candidate is of the destination that puts it forward. -/
theorem candidate_some {e : Fin 32} (h : candidate s p d = some (e, j)) : e = d ∧ Forward s p d j := by
  obtain ⟨rfl, -⟩ := candidate_mem h
  exact ⟨rfl, candidate_iff.mp h⟩

/-- The best of the candidates of the destinations in `l`: none stands ahead of it, and it stands ahead of those of the
destinations before its own. -/
def Best (s : State) (p : PortNo) (l : List (Fin 32)) (best : Option (Fin 32 × Job)) : Prop :=
  match best with
  | none => ∀ d ∈ l, ∀ j, ¬ Forward s p d j
  | some (d, j) => d ∈ l ∧ Forward s p d j ∧ ∀ e ∈ l, ∀ k, Forward s p e k → ¬ Before k j ∧ (e < d → Before j k)

theorem forward_unique (h : Forward s p d j) (h' : Forward s p d k) : j = k := by
  have := (candidate_iff.mpr h).symm.trans (candidate_iff.mpr h')
  cases this
  rfl

/-- A job is not ahead of itself, and what stands behind a job that `j` is ahead of stands behind `j`. -/
theorem Before.of_not {a b c : Job} (h : Before b a) (hc : ¬ Before c a) : Before b c := (h.or c).resolve_right hc

theorem Before.trans {a b c : Job} (h : Before a b) (h' : Before b c) : Before a c := h.of_not h'.asymm

/-- A job put forward by the next destination becomes the best only if it is ahead of the best so far. -/
theorem best_step {l : List (Fin 32)} {best : Option (Fin 32 × Job)} (h : Best s p l best) (hd : ∀ e ∈ l, e < d) :
    Best s p (l ++ [d]) (betterJob best (candidate s p d)) := by
  have hnone : candidate s p d = none → ∀ j, ¬ Forward s p d j := fun hc j hj => by
    cases hc.symm.trans (candidate_iff.mpr hj)
  cases hc : candidate s p d with
  | none =>
    cases best with
    | none =>
      intro e he j hj
      rcases List.mem_append.mp he with he | he
      · exact h e he j hj
      · obtain rfl := List.mem_singleton.mp he
        exact hnone hc j hj
    | some x =>
      obtain ⟨e, j⟩ := x
      obtain ⟨he, hf, hbest⟩ := h
      refine ⟨List.mem_append_left _ he, hf, fun e' he' k hk => ?_⟩
      rcases List.mem_append.mp he' with he' | he'
      · exact hbest e' he' k hk
      · obtain rfl := List.mem_singleton.mp he'
        exact absurd hk (hnone hc k)
  | some y =>
    obtain ⟨d', k⟩ := y
    obtain ⟨rfl, hk⟩ := candidate_some hc
    have hlast {e : Fin 32} (he : e ∈ l ++ [d']) : e ∈ l ∨ e = d' := by simpa using he
    cases best with
    | none =>
      refine ⟨by simp, hk, fun e he i hi => ?_⟩
      rcases hlast he with he | rfl
      · exact absurd hi (h e he i)
      · obtain rfl := forward_unique hi hk
        exact ⟨fun hb => hb.asymm hb, fun hlt => absurd hlt (lt_irrefl _)⟩
    | some x =>
      obtain ⟨e, j⟩ := x
      obtain ⟨he, hf, hbest⟩ := h
      unfold betterJob
      dsimp only
      split
      · next hahead =>
        have hkj : Before k j := (ahead_iff k j).mp hahead
        refine ⟨by simp, hk, fun e' he' i hi => ?_⟩
        rcases hlast he' with he' | rfl
        · have hij : ¬ Before i j := (hbest e' he' i hi).1
          exact ⟨fun hik => hij (hik.trans hkj), fun _ => hkj.of_not hij⟩
        · obtain rfl := forward_unique hi hk
          exact ⟨fun hb => hb.asymm hb, fun hlt => absurd hlt (lt_irrefl _)⟩
      · next hahead =>
        have hkj : ¬ Before k j := fun hb => hahead ((ahead_iff k j).mpr hb)
        refine ⟨List.mem_append_left _ he, hf, fun e' he' i hi => ?_⟩
        rcases hlast he' with he' | rfl
        · exact hbest e' he' i hi
        · obtain rfl := forward_unique hi hk
          exact ⟨hkj, fun hlt => absurd hlt (lt_asymm (hd e he))⟩

theorem best_foldl (l r : List (Fin 32)) {best : Option (Fin 32 × Job)} (h : Best s p l best) (hl : (l ++ r).Pairwise (· < ·)) :
    Best s p (l ++ r) (r.foldl (fun best d => betterJob best (candidate s p d)) best) := by
  induction r generalizing l best with
  | nil => simpa using h
  | cons d r ih =>
    have hd : ∀ e ∈ l, e < d := fun e he => (List.pairwise_append.mp hl).2.2 e he d List.mem_cons_self
    have := ih (l ++ [d]) (best_step h hd) (by simpa using hl)
    simpa using this

theorem bestCandidate_best : Best s p allDests (bestCandidate s p) :=
  best_foldl [] allDests (fun _ h => absurd h List.not_mem_nil) (by decide)

/-- Settles O35. -/
theorem schedulerChoices : Obligations.SchedulerChoices := by
  refine ⟨fun s n h => by rw [offerJob, h], fun s n j hj => ⟨offerJob_closed hj, fun he hpin hq => ?offer⟩, fun s p => ?pull,
    fun s p => ?candidates⟩
  case offer =>
    intro free room
    have hfree (q : PortNo) : offerTakes s j q = true ↔ free q := offerTakes_iff
    have hroom (q : PortNo) : insertionFits s j q = true ↔ room q := insertionFits_iff
    have hfree' (q : PortNo) : offerTakes s j q = false ↔ ¬ free q := by rw [← hfree, Bool.not_eq_true]
    have hroom' (q : PortNo) : insertionFits s j q = false ↔ ¬ room q := by rw [← hroom, Bool.not_eq_true]
    refine ⟨fun l p r hm hl hp => offerJob_takes hj he hpin hq ?_, fun hnone => ?_⟩
    · rw [hm]
      exact find_split (fun q hq => (hfree' q).mpr (hl q hq)) ((hfree p).mpr hp)
    have hsearch := offerJob_searches hj he hpin hq (List.find?_eq_none.mpr fun q hq => by
      rw [hfree]
      exact hnone q hq)
    refine ⟨fun h => ?_, fun hrush hins l p r v hm hl hp hrun hsl => ?_⟩
    · rw [hsearch]
      rcases h with h | h | h
      · exact if_neg (by simp [h])
      · exact if_neg (by simp [h])
      · rw [List.find?_eq_none.mpr fun q hq => by rw [hroom]; exact h q hq]
        split <;> rfl
    · obtain ⟨hsusp, hinc, -, -, v', k, hv, hk, hkrush, hkst⟩ := id hp
      obtain rfl : v' = v := Option.some.inj (hv.symm.trans ((hrun p).mpr rfl))
      have hne : v' ≠ n := fun h => (hsl p).1 (h ▸ hv)
      have hoffer : offerJob n s = beginDrain p v' .suspendInsert .port (s.inserted p j) := by
        rw [hsearch, if_pos (by simp [hrush, hins]), hm, find_split (fun q hq => (hroom' q).mpr (hl q hq)) ((hroom p).mpr hp)]
        exact insertAt_eq hj hpin hsl hrun
      rw [hoffer]
      refine ⟨rfl, ?_⟩
      intro t
      have hslots : (t.port p).slots = ((s.inserted p j).port p).slots := slots_setJobState
      rw [port_inserted hj hpin hsl, if_pos rfl] at hslots
      have hrunPort : ((s.inserted p j).modJob v' fun k => { k with purpose := some .suspendInsert }).runPort v' = some p :=
        runPort_eq fun q => by
          rw [port_modJob, port_inserted hj hpin hsl]
          split
          · exact hrun q
          · exact hrun q
      have hqueue : t.queue j.dest = (s.inserted p j).queue j.dest := by simp [t, State.queue, beginDrain]
      refine ⟨?_, ?_, ?_, fun q hq => ?_, ?_, ?_⟩
      · rw [← job?_num hj]
        exact congrArg (fun x => x.2.2.1) hslots
      · exact (congrArg (fun x => x.1) hslots).trans hv
      · rw [hqueue, State.inserted, leaveQueue_dest (pinnedAt_eq_none.mpr hpin)]
        simp [State.queue, State.modPort, State.setPort, State.modJob, State.setQueue]
      · refine (port_setJobState_away fun h => hq (Option.some.inj (hrunPort.symm.trans h)).symm).trans ?_
        rw [port_modJob, port_inserted hj hpin hsl, if_neg hq]
      · refine ⟨{ j with queueEntry := none, state := .suspended }, ?_, rfl, rfl, rfl, rfl⟩
        show (setJobState v' .draining .port _).job? n = _
        rw [job?_setJobState, if_neg hne.symm, job?_modJob (by intro; rfl), if_neg hne.symm, job?_inserted hj hpin hsl, if_pos rfl]
      · refine ⟨{ k with purpose := some .suspendInsert, state := .draining }, ?_, rfl, rfl⟩
        show (setJobState v' .draining .port _).job? v' = _
        rw [job?_setJobState, if_pos rfl, job?_modJob (by intro; rfl), if_pos rfl, job?_inserted hj hpin hsl, if_neg hne, hk]
        rfl
  case pull =>
    refine ⟨pull_full, fun hrun => ⟨fun n h => pull_incoming hrun h, fun n why hi h hw => pull_suspended hrun hi h hw,
      fun hi hs => ?_⟩⟩
    rw [pull_queues hrun hi hs]
    exact ⟨pullQueues_unusable, fun hu => ⟨fun n rest hq => pullQueues_pinned hu hq, fun hq => ⟨pullQueues_none hq,
      fun d j hb => pullQueues_best hu hq hb⟩⟩⟩
  case candidates =>
    intro puts
    have hbest := bestCandidate_best (s := s) (p := p)
    refine ⟨fun h d j => ?_, fun d j h => ?_⟩
    · rw [h] at hbest
      exact hbest d (List.mem_finRange d) j
    · rw [h] at hbest
      obtain ⟨-, hf, hall⟩ := hbest
      exact ⟨hf, fun e k hk => hall e (List.mem_finRange e) k hk⟩

end Sys2Proof.Machine
end

section
/-! PROOF. A job enters a run slot; a drain, a cancel or a finished run leaves it (R41, R42, R47, R49, R68, R91). -/

namespace Sys2Proof.Machine

variable {s : State} {p q : PortNo} {n : Nat} {j : Job} {st : JobState} {r : JobReason} {k : AlertKind}

/-! ### MEDIA_OUT of a run slot -/

theorem port_alertOn_away {e : EntryNo} {d : Option Nat} (h : portOf e ≠ some q) : (alertOn e d s).port q = s.port q := by
  unfold alertOn
  dsimp only
  repeat' split
  · exact port_alertMove_away h
  · exact port_alertMove_away h
  · rfl
  · rfl

theorem port_condOn_away {d : Option Nat} (hk : k ≠ .spoolLow) (hq : q ≠ p) : (condOn p k d s).port q = s.port q := by
  unfold condOn
  split
  · rfl
  · rw [port_alertOn_away (by rw [portOf_entryNo p k hk]; exact fun h => hq (Option.some.inj h).symm), port_modPort, if_neg hq]

/-- What a condition that is on makes of its port: the condition and the lamps (R111, R154). -/
theorem port_condOn_self (k : AlertKind) (d : Option Nat) :
    ∃ l, (condOn p k d s).port p = { s.port p with lamps := l, conds := (s.port p).conds.set k true } := by
  unfold condOn
  split
  · next h => exact ⟨(s.port p).lamps, by rw [Conds.set_self fun _ => h]⟩
  · obtain ⟨l, hl⟩ := port_alertOn (s.modPort p fun x => { x with conds := x.conds.set k true }) (entryNo p k) d p
    exact ⟨l, by rw [hl, port_modPort, if_pos rfl]⟩

theorem port_evalMedia_away (hq : q ≠ p) : (evalMedia p s).port q = s.port q := by
  unfold evalMedia
  repeat' split
  · exact port_condOn_away (by decide) hq
  · exact port_condOff_away (by decide) hq
  · exact port_condOff_away (by decide) hq

/-- MEDIA_OUT follows the media class of the run job (R91). -/
theorem port_evalMedia_self (hj : s.runJob p = some j) : ∃ l, (evalMedia p s).port p = { s.port p with
    conds := { (s.port p).conds with mediaOut := (s.port p).mediaEmpty.getLsbD j.media.val }, lamps := l } := by
  rw [evalMedia, hj]
  dsimp only
  split
  · next h =>
    obtain ⟨l, hl⟩ := port_condOn_self (s := s) (p := p) .mediaOut (some j.media.val)
    exact ⟨l, by rw [hl, h]; rfl⟩
  · next h =>
    obtain ⟨l, hl⟩ := port_condOff_self (s := s) (p := p) .mediaOut
    exact ⟨l, by rw [hl, Bool.not_eq_true _ |>.mp h]; rfl⟩

theorem port_setJobState : ∃ b, (setJobState n st r s).port q = { s.port q with busy := b } := by
  have hport (p : PortNo) : ((s.modJob n fun j => { j with state := st }).noteJob n r).port p = s.port p := by simp [State.port]
  unfold setJobState
  split
  · exact ⟨_, rfl⟩
  · split
    · exact ⟨_, rfl⟩
    · dsimp only
      split
      · exact ⟨_, hport q⟩
      · split
        · rw [clearBusy, port_modPort, hport]
          split
          · exact ⟨_, rfl⟩
          · exact ⟨_, rfl⟩
        · exact ⟨_, hport q⟩

/-! ### Entering a run slot -/

/-- The state of a job that enters a run slot (R41). -/
theorem runState_eq : j.runState = if j.dataClosed = false ∧ j.cursor = j.limit then .starved else .running := by
  unfold Job.runState
  cases j.dataClosed <;> simp

/-- Job `j` bound to port `p` at this reading of the clock (R42, R60). -/
def Job.boundTo (p : PortNo) (clock : Nat) (j : Job) : Job :=
  { j with bound := some p, queueEntry := none, firstDispatch := some (j.firstDispatch.getD clock) }

/-- The state as the job has entered the slot, before its state is set. -/
def State.entered (s : State) (p : PortNo) (n : Nat) : State :=
  (s.modPort p (fun x => { x with run := some n, idleTimer := none })).modJob n (Job.boundTo p s.mlc.clock)

theorem job?_entered (hj : s.job? n = some j) : (s.entered p n).job? n = some (j.boundTo p s.mlc.clock) :=
  job?_modJob_self (f := Job.boundTo p s.mlc.clock) (fun _ => rfl) ((job?_modPort p _).trans hj)

theorem enterRun_eq (hj : s.job? n = some j) :
    enterRun p n s = evalMedia p (setJobState n j.runState .port (s.entered p n)) := by
  have hjob := job?_entered (p := p) hj
  unfold State.entered at hjob
  unfold enterRun
  dsimp only
  rw [show (fun j : Job => { j with bound := some p, queueEntry := none, firstDispatch := some (j.firstDispatch.getD
    (s.modPort p fun x => { x with run := some n, idleTimer := none }).clock) }) = Job.boundTo p s.mlc.clock from rfl, hjob]
  rfl

theorem job?_enterRun (hj : s.job? n = some j) : (enterRun p n s).job? n
    = some { j.boundTo p s.mlc.clock with state := j.runState } := by
  rw [enterRun_eq hj, job?_evalMedia, job?_setJobState, if_pos rfl, job?_entered hj]
  rfl

theorem job?_enterRun_away {m : Nat} (hj : s.job? n = some j) (hm : m ≠ n) : (enterRun p n s).job? m = s.job? m := by
  rw [enterRun_eq hj, job?_evalMedia, job?_setJobState, if_neg hm, State.entered, job?_modJob (by intro; rfl), if_neg hm, job?_modPort]

/-- MEDIA_OUT of the port after a job has entered its run slot (R91). -/
theorem mediaOut_enterRun (hj : s.job? n = some j) :
    ((enterRun p n s).port p).conds.mediaOut = (s.port p).mediaEmpty.getLsbD j.media.val := by
  obtain ⟨b, hb⟩ := port_setJobState (s := s.entered p n) (n := n) (st := j.runState) (r := .port) (q := p)
  rw [State.entered, port_modJob, port_modPort, if_pos rfl] at hb
  have hrun : (setJobState n j.runState .port (s.entered p n)).runJob p
      = some { j.boundTo p s.mlc.clock with state := j.runState } := by
    rw [State.runJob, State.entered, hb]
    show (setJobState n j.runState .port (s.entered p n)).job? n = _
    rw [job?_setJobState, if_pos rfl, job?_entered hj]
    rfl
  obtain ⟨l, hl⟩ := port_evalMedia_self hrun
  rw [enterRun_eq hj, hl, State.entered, hb]
  rfl

/-- The busy flag of a port whose run slot a job enters: kept unless the job becomes STARVED there (R105). -/
def enteredBusy (x : Port) (j : Job) : Bool :=
  x.busy && (decide (j.runState = .running) || decide (j.state = j.runState))

/-- The whole of what entering a slot changes, but for MEDIA_OUT, when no other slot holds the job. -/
theorem setJobState_entered (hj : s.job? n = some j) (hq : ∀ q, q ≠ p → (s.port q).run ≠ some n) :
    setJobState n j.runState .port (s.entered p n)
      = (let u := (s.modPort p (fun x => { x with run := some n, idleTimer := none, busy := enteredBusy x j })).modJob n
          (fun _ => { j.boundTo p s.mlc.clock with state := j.runState })
        if j.state = j.runState then u else u.noteJob n .port) := by
  have hn := job?_ne_zero hj
  have hjob := job?_entered (p := p) hj
  have hjp (f : Port → Port) : (s.modPort p f).job? n = some j := (job?_modPort p f).trans hj
  have hkeep (h : j.runState = .running ∨ j.state = j.runState) (x : Port) : enteredBusy x j = x.busy := by
    rcases h with h | h <;> simp [enteredBusy, h]
  dsimp only
  by_cases hst : j.state = j.runState
  · rw [if_pos hst, setJobState_same hjob hst, State.entered]
    simp only [hkeep (.inr hst)]
    exact modJob_congr hn (hjp _) (by rw [← hst]; rfl)
  · rw [if_neg hst]
    by_cases hrun : j.runState = .running
    · rw [hrun, setJobState_running hjob (by rw [← hrun]; exact hst), State.entered, modJob_modJob (by intro; rfl)]
      simp only [hkeep (.inl hrun)]
      exact congrArg (fun v : State => v.noteJob n .port) (modJob_congr hn (hjp _) rfl)
    · have hport : (s.entered p n).runPort n = some p := runPort_eq fun q => by
        rw [State.entered, port_modJob, port_modPort]
        by_cases h : q = p
        · simp [h]
        · simp [h, hq q h]
      have hbusy (x : Port) : enteredBusy x j = false := by simp [enteredBusy, hrun, hst]
      rw [setJobState_at hjob hst hport hrun, modPort_noteJob, State.entered, modJob_modJob (by intro; rfl), ← modJob_modPort,
        modPort_modPort]
      simp only [hbusy]
      exact congrArg (fun v : State => v.noteJob n .port) (modJob_congr hn (hjp _) rfl)

/-! ### The end of a run -/

/-- The purpose and the other fields of a job record play no part in the emptying of the run slot. -/
theorem leaveRun_modJob {f : Job → Job} : leaveRun p (s.modJob n f) = (leaveRun p s).modJob n f := by
  unfold leaveRun
  rw [← modJob_modPort]
  exact evalMedia_none_modJob (by simp)

theorem runPort_leaveRun (hrun : s.runsAt p n) : (leaveRun p s).runPort n = none := runPort_emptied hrun (run_leaveRun p)

theorem job?_left (hj : s.job? n = some j) : (leaveRun p s).job? n = some j := (job?_leaveRun p).trans hj

/-- A run job that neither drains nor is cancelled, or has sheets in flight, is left as it is. -/
theorem runEnd_nothing {cause : EndCause} (hjob : s.runJob p = some j)
    (hout : cause = .out → ¬ (j.dataClosed = true ∧ j.total = some j.delivered))
    (h : j.inFlight ≠ 0 ∨ j.state ∉ [JobState.cancelling, .draining]) : runEnd p cause s = (s, []) := by
  have hout' : ¬ (cause = .out ∧ j.dataClosed = true ∧ j.total = some j.delivered) := fun hc => hout hc.1 hc.2
  rw [runEnd, hjob]
  dsimp only
  rcases h with h | h
  · by_cases hc : j.state = .cancelling
    · rw [if_pos hc, if_neg h]
    · rw [if_neg hc, if_neg hout', if_neg fun hd => h hd.2]
  · simp only [List.mem_cons, List.not_mem_nil, or_false, not_or] at h
    rw [if_neg h.1, if_neg hout', if_neg fun hd => h.2 hd.1]

section RunEnd

variable {cause : EndCause} (hj : s.job? n = some j) (hrun : s.runsAt p n)

include hj hrun

theorem runJob_of_runsAt : s.runJob p = some j := by
  rw [State.runJob, (hrun p).mpr rfl]
  exact hj

theorem runEnd_cancels (hf : j.inFlight = 0) (hst : j.state = .cancelling) : runEnd p cause s
    = ((leaveRun p s).finishes n .cancelled (cause.reason true), [.pull p]) := by
  rw [runEnd, runJob_of_runsAt hj hrun]
  dsimp only
  rw [if_pos hst, if_pos hf]
  exact finishJob_run hj (by rw [hst]; decide) (job?_num hj) (by simp [hst]) hrun

theorem runEnd_delivers (hc : cause = .out) (hst : j.state = .running ∨ j.state = .starved ∨ j.state = .draining)
    (hw : j.dataClosed = true ∧ j.total = some j.delivered) :
    runEnd p cause s = ((leaveRun p s).finishes n .done (cause.reason true), [.pull p]) := by
  subst hc
  have hne : j.state ≠ .cancelling ∧ j.state ≠ .done := by rcases hst with h | h | h <;> rw [h] <;> decide
  rw [runEnd, runJob_of_runsAt hj hrun]
  dsimp only
  rw [if_neg hne.1, if_pos ⟨rfl, hw⟩]
  exact finishJob_run hj hne.2 (job?_num hj) (by rcases hst with h | h | h <;> simp [h]) hrun

theorem runEnd_endDrain (hf : j.inFlight = 0) (hst : j.state = .draining)
    (hout : cause = .out → ¬ (j.dataClosed = true ∧ j.total = some j.delivered)) :
    runEnd p cause s = endDrain p j cause s := by
  rw [runEnd, runJob_of_runsAt hj hrun]
  dsimp only
  rw [if_neg (by rw [hst]; decide), if_neg fun hc => hout hc.1 hc.2, if_pos ⟨hst, hf⟩]

/-- A drain of a job whose sheets are all delivered (R43, R47). -/
theorem runEnd_done (hf : j.inFlight = 0) (hst : j.state = .draining)
    (hw : j.dataClosed = true ∧ j.total = some j.delivered) : runEnd p cause s
    = ((leaveRun p s).finishes n .done (cause.reason true), [.pull p]) := by
  by_cases hc : cause = .out
  · exact runEnd_delivers hj hrun hc (.inr (.inr hst)) hw
  · rw [runEnd_endDrain hj hrun hf hst fun h => absurd h hc, endDrain, if_pos hw]
    exact finishJob_run hj (by rw [hst]; decide) (job?_num hj) (by simp [hst]) hrun

/-- A drain that ends with the job's sheets not all delivered (R47). -/
theorem runEnd_drained (hf : j.inFlight = 0) (hst : j.state = .draining)
    (hw : ¬ (j.dataClosed = true ∧ j.total = some j.delivered)) : runEnd p cause s = endDrain p j cause s :=
  runEnd_endDrain hj hrun hf hst fun _ => hw

/-- A drained job that a reason holds is HELD (R47). -/
theorem endDrain_held (hst : j.state = .draining) (hw : ¬ (j.dataClosed = true ∧ j.total = some j.delivered))
    (hh : j.holds.isEmpty = false) : endDrain p j cause s
      = (((leaveRun p s).modJob n (fun j => { j with purpose := none, state := .held })).noteJob n (cause.reason false),
        [.pull p]) := by
  have hnum := job?_num hj
  rw [endDrain, if_neg hw]
  dsimp only
  rw [hnum, if_pos (by simp [hh]), leaveRun_modJob,
    setJobState_away (f := fun j => { j with purpose := none }) (fun _ => rfl) (job?_left hj) (by simp [hst])
      (runPort_leaveRun hrun)]

/-- A job drained for suspension enters the suspended slot (R75, R79). -/
theorem endDrain_suspended (hst : j.state = .draining) (hw : ¬ (j.dataClosed = true ∧ j.total = some j.delivered))
    (hh : j.holds.isEmpty = true) (hp : j.purpose = some .suspendInsert ∨ j.purpose = some .suspendHost) :
    endDrain p j cause s = ((((leaveRun p s).modPort p (fun x => { x with
        susp := some { job := n, reason := if j.purpose = some .suspendInsert then .insert else .host } })).modJob n
        (fun j => { j with purpose := none, state := .suspended })).noteJob n (cause.reason false), [.pull p]) := by
  have hnum := job?_num hj
  have hwhy : (j.purpose.getD .suspendHost).suspReason
      = if j.purpose = some .suspendInsert then .insert else .host := by
    rcases hp with h | h <;> rw [h] <;> rfl
  rw [endDrain, if_neg hw]
  dsimp only
  rw [hnum, if_neg (by simp [hh]), if_pos hp, leaveRun_modJob, ← modJob_modPort, hwhy,
    setJobState_away (f := fun j => { j with purpose := none }) (fun _ => rfl)
      ((job?_modPort p _).trans (job?_left hj)) (by simp [hst]) ((runPort_modPort (by intro; rfl) n).trans (runPort_leaveRun hrun))]

section Queued

variable (hst : j.state = .draining) (hw : ¬ (j.dataClosed = true ∧ j.total = some j.delivered))
  (hh : j.holds.isEmpty = true) (hp : ¬ (j.purpose = some .suspendInsert ∨ j.purpose = some .suspendHost))

include hst hw hh hp

omit hrun hst in
/-- A drained job that nothing holds or suspends is queued again (R47). -/
theorem endDrain_joins : endDrain p j cause s
    = (let r := joinQueue n (cause.reason false) ((leaveRun p s).modJob n (fun j => { j with purpose := none }))
      (r.1, .pull p :: r.2)) := by
  rw [endDrain, if_neg hw]
  dsimp only
  rw [job?_num hj, if_neg (by simp [hh]), if_neg hp, leaveRun_modJob]

theorem endDrain_pinned {b : PortNo} (hpin : j.pinned = true) (hb : j.bound = some b) : endDrain p j cause s
    = ((((leaveRun p s).modPort b (fun x => { x with pinnedQ := x.pinnedQ ++ [n] })).modJob n
      (fun j => { j with purpose := none, queueEntry := some s.mlc.clock, state := .queued })).noteJob n
        (cause.reason false), [.pull p, .pull b]) := by
  rw [endDrain_joins hj hw hh hp]
  dsimp only
  rw [joinQueue_pinned (f := fun j => { j with purpose := none }) (fun _ => rfl) (job?_left hj) (by simp [hst]) hpin hb
    (runPort_leaveRun hrun), State.clock, (leaveRun_frame p).1]

theorem endDrain_queued (hpin : j.pinned = false ∨ j.bound = none) : endDrain p j cause s
    = (let k := { j with purpose := none, queueEntry := some s.mlc.clock }
      ((((leaveRun p s).setQueue j.dest (placeInQueue ((leaveRun p s).modJob n (fun _ => k)) k (s.queue j.dest))).modJob n
        (fun j => { j with purpose := none, queueEntry := some s.mlc.clock, state := .queued })).noteJob n
          (cause.reason false), [.pull p, .offer n])) := by
  have hclock : (leaveRun p s).clock = s.mlc.clock := by rw [State.clock, (leaveRun_frame p).1]
  have hqueue : (leaveRun p s).queue j.dest = s.queue j.dest := by simp only [State.queue, leaveRun_frame]
  rw [endDrain_joins hj hw hh hp]
  dsimp only
  rw [joinQueue_dest (f := fun j => { j with purpose := none }) (fun _ => rfl) (job?_left hj) (by simp [hst]) hpin
    (runPort_leaveRun hrun), hclock]
  dsimp only
  rw [← modJob_setQueue, modJob_modJob (by intro; rfl), show State.queue (State.modJob (leaveRun p s) n _) j.dest = _ from hqueue,
    modJob_congr (f := fun j => { j with purpose := none, queueEntry := some s.mlc.clock })
      (g := fun _ => { j with purpose := none, queueEntry := some s.mlc.clock }) (job?_ne_zero hj) (job?_left hj) rfl]

end Queued

end RunEnd

/-- Settles O36: entering a slot from `enterRun_eq`, the end of a run branch by branch of `runEnd` and `endDrain`. -/
theorem runSlotChanges : Obligations.RunSlotChanges := by
  unfold Obligations.RunSlotChanges
  intro s p n j hj
  refine ⟨?_, ?_⟩
  · intro t ht
    subst ht
    obtain ⟨hmlc, hsmm, hdt, hres, hpbc, hcfg, hss, hout, hfree, hbase, hpend, hlast, hfin⟩ := enterRun_frame (s := s) p n
    refine ⟨?job, fun m hm => job?_enterRun_away hj hm, mediaOut_enterRun hj, hmlc, hsmm, hlast, hfin, hdt, hres, hpbc, hcfg,
      hss, hout, hfree, hbase, hpend, ?whole⟩
    case job => rw [job?_enterRun hj, runState_eq]; rfl
    case whole =>
      intro hq st k u
      have hst : j.runState = st := runState_eq
      have hwhole : enterRun p n s = evalMedia p (if j.state = st then u else u.noteJob n .port) := by
        rw [enterRun_eq hj, setJobState_entered hj hq, hst]
        simp only [enteredBusy, hst]
        rfl
      have hslot : (s.modPort p (fun x => { x with
          run := some n, idleTimer := none, busy := x.busy && (decide (st = .running) || decide (j.state = st)) })).job? n
          = some j := (job?_modPort p _).trans hj
      have hport (q : PortNo) : (if j.state = st then u else u.noteJob n .port).port q = if q = p then { s.port q with
          run := some n, idleTimer := none, busy := (s.port q).busy && (decide (st = .running) || decide (j.state = st)) }
          else s.port q := by
        have hu : u.port q = _ := (port_modJob _ q).trans (port_modPort ..)
        rw [← hu]
        split
        · rfl
        · simp [State.port]
      have hjob : (if j.state = st then u else u.noteJob n .port).runJob p = some k := by
        rw [State.runJob, hport, if_pos rfl]
        show State.job? _ n = _
        have hu : u.job? n = some k := by
          rw [show u = _ from modJob_congr (g := fun j => { j.boundTo p s.mlc.clock with state := st }) (job?_ne_zero hj) hslot rfl]
          exact job?_modJob_self (f := fun j => { j.boundTo p s.mlc.clock with state := st }) (fun _ => rfl) hslot
        rw [← hu]
        split
        · rfl
        · exact job?_noteJob ..
      refine ⟨hwhole, fun q hne => ?_, ?_⟩
      · rw [hwhole, port_evalMedia_away hne, hport, if_neg hne]
      · obtain ⟨l, hl⟩ := port_evalMedia_self hjob
        refine ⟨l, ?_⟩
        rw [hwhole, hl, hport, if_pos rfl]
  · intro cause hrun left whole changes ended
    cases cause
    all_goals
      refine ⟨fun hf hw => runEnd_nothing (runJob_of_runsAt hj hrun) hw (.inl hf), fun hst hw => runEnd_nothing (runJob_of_runsAt hj hrun) hw (.inr hst),
        fun hf hst => runEnd_cancels hj hrun hf hst, fun hf hst hw => runEnd_done hj hrun hf hst hw,
        fun hc hst hw => runEnd_delivers hj hrun hc (hst.elim .inl fun h => .inr (.inl h)) hw, fun hf hst hw => ?_⟩
      rw [runEnd_drained hj hrun hf hst hw]
      refine ⟨fun hh => endDrain_held hj hrun hst hw hh, fun hh => ?_⟩
      intro suspends slot
      refine ⟨fun hp => endDrain_suspended hj hrun hst hw hh hp, fun hp => ?_⟩
      intro joined
      exact ⟨fun b hpin hb => endDrain_pinned hj hrun hst hw hh hp hpin hb,
        fun hpin => endDrain_queued hj hrun hst hw hh hp hpin⟩

end Sys2Proof.Machine
end

section
/-! PROOF. The dispatch of a sheet, or its credit stop (R101, R102, R139, R140, R143). -/

namespace Sys2Proof.Machine

variable {s : State} {p q : PortNo} {n : Nat} {j : Job} {r : JobReason} {i : Image} {f : Flight}

/-! ### The bodies of a transfer -/

/-- The bodies are the bytes, each of 1 to 1,024 bytes, all but the last full (R102). -/
theorem chunks_spec (fuel : Nat) (l : List Byte) (h : l.length ≤ fuel) :
    (chunks fuel l).flatten = l ∧ (∀ b ∈ (chunks fuel l).dropLast, b.length = 1024)
      ∧ ∀ b ∈ chunks fuel l, 1 ≤ b.length ∧ b.length ≤ 1024 := by
  induction fuel generalizing l with
  | zero => simp [chunks, List.length_eq_zero_iff.mp (Nat.le_zero.mp h)]
  | succ fuel ih =>
    cases l with
    | nil => simp [chunks]
    | cons c cs =>
      obtain ⟨hflat, hfull, hsize⟩ := ih ((c :: cs).drop 1024) (by simp at h ⊢; omega)
      refine ⟨?_, ?_, ?_⟩
      · rw [chunks, List.flatten_cons, hflat, List.take_append_drop]
      · intro b hb
        rw [chunks] at hb
        by_cases hnil : chunks fuel ((c :: cs).drop 1024) = []
        · rw [hnil, List.dropLast_singleton] at hb
          exact absurd hb List.not_mem_nil
        · rw [List.dropLast_cons_of_ne_nil hnil, List.mem_cons] at hb
          rcases hb with rfl | hb
          · have hne : (c :: cs).drop 1024 ≠ [] := fun h0 => hnil (by rw [h0]; cases fuel <;> rfl)
            rw [ne_eq, List.drop_eq_nil_iff, not_le] at hne
            rw [List.length_take]
            omega
          · exact hfull b hb
      · intro b hb
        rw [chunks, List.mem_cons] at hb
        rcases hb with rfl | hb
        · simp [List.length_take]
        · exact hsize b hb

/-! ### The test for STARVED -/

theorem job?_starvedTest_self (hj : s.job? n = some j) (hst : j.state = .running ∨ j.state = .starved) :
    (starvedTest n r s).job? n = some { j with state := j.runState } := by
  simp only [starvedTest, hj]
  rw [if_pos hst, job?_setJobState, if_pos rfl, hj]
  rfl

theorem port_starvedTest : ∃ b, (starvedTest n r s).port q = { s.port q with busy := b } := by
  unfold starvedTest
  repeat' split
  · exact ⟨_, rfl⟩
  · exact port_setJobState
  · exact ⟨_, rfl⟩

/-- The test of a job in the run slot of one port leaves every other port alone. -/
theorem port_starvedTest_away (h : (s.port q).run ≠ some n) : (starvedTest n r s).port q = s.port q := by
  unfold starvedTest
  repeat' split
  · rfl
  · exact port_setJobState_away fun h' => h (runPort_some h')
  · rfl

/-! ### The conditions of a dispatch -/

theorem dispatchReady_iff : dispatchReady s p j = true ↔ (s.port p).usable = true ∧ j.state = .running ∧ j.cursor < j.limit
    ∧ (s.port p).inFlight.length < (s.port p).effWindow ∧ ∀ f ∈ (s.port p).inFlight, f.stage = .taken := by
  simp [dispatchReady, and_assoc]

theorem creditPasses_iff {a : Fin 128} {charge : Nat} : s.creditPasses a charge = true ↔ (s.account a).limited = false
    ∨ (s.account a).periodCharged + (s.reservation a).mills + charge ≤ (s.account a).limit := by
  simp [State.creditPasses]

section Ready

variable (hrun : (s.port p).run = some n) (hj : s.job? n = some j)

include hrun hj

theorem dispatch_notReady (h : ¬ dispatchReady s p j = true) : dispatch p s = (s, []) := by
  have hjob : s.runJob p = some j := by rw [State.runJob, hrun]; exact hj
  rw [dispatch, hjob]
  simp [h]

variable (hr : dispatchReady s p j = true) (hi : s.smm.image? n (j.place j.cursor).1 = some i)

include hr hi

theorem dispatch_sends (hc : s.creditPasses j.account (newFlight s p j i).charge = true) : dispatch p s
    = (sendSheet p j i (newFlight s p j i) (reserve j.account (newFlight s p j i).charge (newFlight s p j i).sides s), []) := by
  have hjob : s.runJob p = some j := by rw [State.runJob, hrun]; exact hj
  rw [dispatch, hjob]
  simp [hr, job?_num hj, hi, hc]

theorem dispatch_stops (hc : ¬ s.creditPasses j.account (newFlight s p j i).charge = true) :
    dispatch p s = creditStop p n s := by
  have hjob : s.runJob p = some j := by rw [State.runJob, hrun]; exact hj
  rw [dispatch, hjob]
  simp [hr, job?_num hj, hi, hc]

end Ready

/-! ### A sheet that is sent -/

/-- A port whose transfer of the sheet has begun. -/
def Port.sends (x : Port) (f : Flight) (frames : List Frame) : Port :=
  { x with inFlight := x.inFlight ++ [f], nextTag := x.nextTag + 1, transfer := frames }

/-- A job with one more sheet on its way. -/
def Job.sends (j : Job) : Job := { j with cursor := j.cursor + 1, inFlight := j.inFlight + 1 }

theorem sendSheet_eq : sendSheet p j i f s = starvedTest j.num .dispatch
    ((s.modPort p (fun x => x.sends f (transferFrames j f i (imageBytes s.smm.spool i)))).modJob j.num Job.sends) := rfl

theorem port_sendSheet_self : ∃ b, (sendSheet p j i f s).port p
    = { (s.port p).sends f (transferFrames j f i (imageBytes s.smm.spool i)) with busy := b } := by
  obtain ⟨b, hb⟩ := port_starvedTest (s := (s.modPort p (fun x => x.sends f (transferFrames j f i
    (imageBytes s.smm.spool i)))).modJob j.num Job.sends) (n := j.num) (r := .dispatch) (q := p)
  refine ⟨b, ?_⟩
  rw [sendSheet_eq, hb, port_modJob, port_modPort, if_pos rfl]

theorem port_sendSheet_away (hq : q ≠ p) (hrun : (s.port q).run ≠ some j.num) :
    (sendSheet p j i f s).port q = s.port q := by
  have hport : ((s.modPort p (fun x => x.sends f (transferFrames j f i (imageBytes s.smm.spool i)))).modJob j.num Job.sends).port q
      = s.port q := by rw [port_modJob, port_modPort, if_neg hq]
  rw [sendSheet_eq, port_starvedTest_away (by rwa [hport]), hport]

theorem job?_sendSheet (hj : s.job? n = some j) (hst : j.state = .running) : (sendSheet p j i f s).job? n
    = some { j.sends with state := if j.dataClosed = false ∧ j.cursor + 1 = j.limit then .starved else .running } := by
  obtain rfl := job?_num hj
  have hjob : ((s.modPort p (fun x => x.sends f (transferFrames j f i (imageBytes s.smm.spool i)))).modJob j.num
      Job.sends).job? j.num = some j.sends := job?_modJob_self (by intro; rfl) ((job?_modPort p _).trans hj)
  rw [sendSheet_eq, job?_starvedTest_self hjob (.inl hst), runState_eq]
  rfl

/-! ### A credit stop -/

theorem job?_creditStop (hj : s.job? n = some j) : (creditStop p n s).1.job? n
    = some { j with holds := { j.holds with credit := true }, purpose := some .credit, state := .draining } := by
  have hheld : (s.modJob n (fun j => { j with holds := { j.holds with credit := true } })).job? n = some _ :=
    job?_modJob_self (by intro; rfl) hj
  rw [creditStop, beginDrain, job?_setJobState, if_pos rfl, job?_modJob_self (by intro; rfl) hheld]
  rfl

theorem port_creditStop : ∃ b, (creditStop p n s).1.port q = { s.port q with busy := b } := port_setJobState

/-- Settles O37: the branches of `dispatch`, with `sendSheet` and `creditStop` read field by field. -/
theorem dispatchSends : Obligations.DispatchSends := by
  unfold Obligations.DispatchSends
  intro s p n j x hrun hj x₀ ready
  have hready : dispatchReady s p j = true ↔ ready := dispatchReady_iff
  refine ⟨fun h => dispatch_notReady hrun hj (mt hready.mp h), fun h hx => ?_⟩
  intro a r sides charge f passes t
  obtain rfl := job?_num hj
  have hf : newFlight s p j x = f := rfl
  have hpass : s.creditPasses j.account (newFlight s p j x).charge = true ↔ passes := creditPasses_iff
  refine ⟨fun hp => ?sent, fun hp => ?stopped⟩
  case sent =>
    have ht : dispatch p s = (sendSheet p j x f (reserve j.account charge sides s), []) :=
      dispatch_sends hrun hj (hready.mpr h) hx (hpass.mpr hp)
    have htf : t = sendSheet p j x f (reserve j.account charge sides s) := congrArg Prod.fst ht
    obtain ⟨hflat, hfull, hsize⟩ := chunks_spec _ (imageBytes s.smm.spool x) le_rfl
    obtain ⟨b, hport⟩ := port_sendSheet_self (s := reserve j.account charge sides s) (p := p) (j := j) (i := x) (f := f)
    obtain ⟨hres, hcfg, hsmm⟩ : (sendSheet p j x f (reserve j.account charge sides s)).reserved
        = (reserve j.account charge sides s).reserved ∧ (sendSheet p j x f (reserve j.account charge sides s)).cfg = s.cfg
        ∧ (sendSheet p j x f (reserve j.account charge sides s)).smm = s.smm := by
      simp only [sendSheet_frame]
      exact ⟨trivial, rfl, rfl⟩
    have hreservation (b : Fin 128) : (sendSheet p j x f (reserve j.account charge sides s)).reservation b
        = (reserve j.account charge sides s).reservation b := by simp only [State.reservation, hres]
    rw [htf]
    refine ⟨congrArg Prod.snd ht, ⟨_, hflat, hfull, hsize, ?transfer⟩, ?flights, ?tag, ?away, job?_sendSheet hj h.2.1, ?reserved,
      hcfg, hsmm, ?others⟩
    case transfer => rw [hport]; rfl
    case flights => rw [hport]; rfl
    case tag => rw [hport]; rfl
    case away =>
      intro q hq hat
      exact port_sendSheet_away hq fun hn => hq ((hat q).mp hn)
    case reserved => rw [hreservation, reserve, reservation_setReservation, if_pos rfl]
    case others =>
      intro b hb
      rw [hreservation, reserve, reservation_setReservation, if_neg hb]
  case stopped =>
    have ht := dispatch_stops hrun hj (hready.mpr h) hx (mt hpass.mp hp)
    have htf : t = (creditStop p j.num s).1 := congrArg Prod.fst ht
    obtain ⟨b, hport⟩ := port_creditStop (s := s) (p := p) (n := j.num) (q := p)
    rw [htf]
    refine ⟨congrArg Prod.snd ht, ?_, ?_, ?_, ?_, job?_creditStop hj⟩
    · rw [hport]
    · rw [hport]
    · simp only [creditStop_frame]
    · simp only [creditStop_frame]

end Sys2Proof.Machine
end

section
/-! PROOF. PORT_RECOVER and the timers of a port (R95, R96, R105, R118, R119, R120). -/

namespace Sys2Proof.Machine

variable {s : State} {p : PortNo} {i : Instr}

/-! ### Events without a request -/

/-- An event taken whole, with the tasks that follow from it. -/
theorem ends_then {g : State → State × List Task} {w : State} {ts : List Task} (hi : exec i s = .next (act g s))
    (h : g (openAct s) = (w, ts)) : Ends i s (cascade ts w) := by
  rw [Ends, hi, act, h, closeAct]

/-- An event from which nothing follows. -/
theorem ends_alone {g : State → State} {w : State} (hi : exec i s = .next (act (fun s => (g s, [])) s))
    (h : g (openAct s) = w) : Ends i s w := by
  have hthen := ends_then hi (Prod.ext h rfl)
  rwa [cascade_nil] at hthen

/-- An event that has no effect. -/
theorem ends_nothing {g : State → State × List Task} (hi : exec i s = .next (act g s)) (h : g (openAct s) = (openAct s, [])) :
    Ends i s (openAct s) := by
  have hthen := ends_then hi h
  rwa [cascade_nil] at hthen

/-- An event after which the wake control of every port is brought up to date (log 6). -/
theorem ends_settled {g : State → State × List Task} {w : State} (hi : exec i s = .next (act g s))
    (h : g (openAct s) = (w, [.settle])) : Ends i s (settle w) := by
  have hthen := ends_then hi h
  rwa [cascade_settle] at hthen

/-! ### Recovery attempts -/

theorem beginAttempt_eq {k : Nat} : beginAttempt p k s = ((s.setPort p { s.port p with attempt := some k }).send p
    { kind := 0x05, tag := 0, payload := [] }).send p { kind := 0x01, tag := 0, payload := [] } := rfl

theorem beginAttempt_recovering {k : Nat} (h : (s.port p).link ≠ .recovering) : beginAttempt p k (setLink p .recovering s)
    = ((s.portBecomes p { s.port p with link := .recovering, attempt := some k, effWindow := 0 }).send p
      { kind := 0x05, tag := 0, payload := [] }).send p { kind := 0x01, tag := 0, payload := [] } := by
  rw [beginAttempt, setLink_notUp h (by decide), portBecomes_modPort]
  rfl

section Recover

variable {port : Nat} (hp : port = p.val)

include hp

theorem doPortRecover_offline (h : (s.port p).link = .offline) :
    doPortRecover port s = accept (beginAttempt p 1 (setLink p .recovering s)) := by
  rw [doPortRecover, field_some (by rw [hp]; exact portNo?_val p), h]

theorem doPortRecover_recovering (h : (s.port p).link = .recovering) : doPortRecover port s = accept (beginAttempt p 1 s) := by
  rw [doPortRecover, field_some (by rw [hp]; exact portNo?_val p), h]

theorem doPortRecover_wrongState (ho : (s.port p).link ≠ .offline) (hr : (s.port p).link ≠ .recovering) :
    doPortRecover port s = .error .wrongState := by
  rw [doPortRecover, field_some (by rw [hp]; exact portNo?_val p)]
  cases h : (s.port p).link with
  | offline => exact absurd h ho
  | recovering => exact absurd h hr
  | down => rfl
  | waking => rfl
  | up => rfl

end Recover

/-! ### The timers -/

theorem wakeFails_of (hl : (s.port p).link = .waking) (ht : (s.port p).wakeTimer ≠ none) : wakeFails p s
    = condOn p .wakeFail none (s.portBecomes p { s.port p with
      link := .offline, effWindow := 0, wakeTimer := none, hailTimer := false }) := by
  rw [wakeFails, if_pos ⟨hl, Option.isSome_iff_ne_none.mpr ht⟩, setLink_notUp (by rw [hl]; decide) (by decide), portBecomes_modPort]

theorem sleepNow_of (hl : (s.port p).link = .up) (hf : (s.port p).inFlight = []) (ht : (s.port p).idleTimer ≠ none) :
    sleepNow p s = (leaveUpDown p s, [.settle]) := by
  rw [sleepNow, if_pos ⟨hl, by simp [hf], Option.isSome_iff_ne_none.mpr ht⟩]

theorem sleepNow_nothing (h : (s.port p).link ≠ .up ∨ (s.port p).inFlight ≠ [] ∨ (s.port p).idleTimer = none) :
    sleepNow p s = (s, []) := by
  refine if_neg ?_
  rintro ⟨hl, hf, ht⟩
  rcases h with h | h | h
  · exact h hl
  · exact h (List.isEmpty_iff.mp hf)
  · simp [h] at ht

theorem hailAgain_nothing (h : (s.port p).link ≠ .waking ∨ (s.port p).hailTimer = false) : hailAgain p s = s := by
  refine if_neg ?_
  rintro ⟨hl, ht⟩
  rcases h with h | h
  · exact h hl
  · simp [h] at ht

theorem wakeFails_nothing (h : (s.port p).link ≠ .waking ∨ (s.port p).wakeTimer = none) : wakeFails p s = s := by
  refine if_neg ?_
  rintro ⟨hl, ht⟩
  rcases h with h | h
  · exact h hl
  · simp [h] at ht

theorem attemptExpires_next {k : Nat} (hl : (s.port p).link = .recovering) (ha : (s.port p).attempt = some k) (hk : k < 3) :
    attemptExpires p s = beginAttempt p (k + 1) s := by
  rw [attemptExpires, hl, ha]
  exact if_pos hk

theorem attemptExpires_lost {k : Nat} (hl : (s.port p).link = .recovering) (ha : (s.port p).attempt = some k) (hk : 3 ≤ k) :
    attemptExpires p s = condOn p .linkLost none (s.portBecomes p { s.port p with
      link := .offline, effWindow := 0, attempt := none }) := by
  rw [attemptExpires, hl, ha]
  refine (if_neg (by omega)).trans ?_
  rw [linkLost, setLink_notUp (by rw [hl]; decide) (by decide), portBecomes_modPort]

theorem attemptExpires_nothing (h : (s.port p).link ≠ .recovering ∨ (s.port p).attempt = none) : attemptExpires p s = s := by
  unfold attemptExpires
  split
  · next k hl ha =>
    rcases h with h | h
    · exact absurd hl h
    · simp [h] at ha
  · rfl

/-! ### Rate windows -/

theorem slowNow_eq (x : Port) (floor : Nat) :
    x.slowNow floor = decide (x.busy = true ∧ floor ≠ 0 ∧ x.rateCount < floor) := by
  unfold Port.slowNow
  cases x.busy <;> by_cases h : floor = 0 <;> simp [h]

theorem runRunning_congr {t : State} (hjt : t.jt = s.jt) (hrun : (t.port p).run = (s.port p).run) :
    t.runRunning p = s.runRunning p := by
  unfold State.runRunning State.runJob State.job?
  rw [hrun, hjt]

/-- Lamps and conditions play no part in the busy flag (R105). -/
theorem busyNow_congr {t : State} {l : Lamps} {c : Conds} {y : Port} (hjt : t.jt = s.jt) (hs : s.port p = y)
    (ht : t.port p = { y with lamps := l, conds := c }) : t.busyNow p = (y.usable && s.runRunning p) := by
  rw [State.busyNow, runRunning_congr hjt (by rw [ht, hs]), ht]
  rfl

theorem busyNow_condOn {k : AlertKind} {d : Option Nat} : (condOn p k d s).busyNow p = s.busyNow p := by
  obtain ⟨l, c, h⟩ := port_condOn s p p k d
  exact busyNow_congr (by simp) rfl h

theorem busyNow_condOff {k : AlertKind} : (condOff p k s).busyNow p = s.busyNow p := by
  obtain ⟨l, c, h⟩ := port_condOff s p p k
  exact busyNow_congr (by simp) rfl h

/-- A rate window of an UP link ends (R105). -/
theorem rateWindowEnds_of (hl : (s.port p).link = .up) : rateWindowEnds p s
    = (let t := s.setPort p { s.port p with latchedRate := (s.port p).rateCount }
      (if decide ((s.port p).busy = true ∧ (s.portCfg p).slowFloor ≠ 0 ∧ (s.port p).rateCount < (s.portCfg p).slowFloor) = true
        then condOn p .slow (some (s.port p).rateCount) t else condOff p .slow t).modPort p
        (fun y => { y with rateCount := 0, busy := (s.port p).usable && s.runRunning p })) := by
  have hlatched : State.busyNow (s.modPort p fun x => { x with latchedRate := x.rateCount }) p
      = ((s.port p).usable && s.runRunning p) := by
    rw [State.busyNow, runRunning_congr (t := s.modPort p fun x => { x with latchedRate := x.rateCount }) (s := s) rfl
      (by rw [port_modPort, if_pos rfl]), port_modPort, if_pos rfl]
    rfl
  refine (if_pos hl).trans ?_
  dsimp only
  rw [slowNow_eq, startRateWindow]
  split
  · rw [busyNow_condOn, hlatched]
    rfl
  · rw [busyNow_condOff, hlatched]
    rfl

/-- Settles O43: each expiry by the branches of its meaning, PORT_RECOVER by link state. -/
theorem portTimers : Obligations.PortTimers := by
  unfold Obligations.PortTimers
  intro s p x u nothing hail attempt
  refine ⟨?recover, ?badField, ?hail, ?noHail, ?wake, ?noWake, ?idle, ?noIdle, ?next, ?lost, ?noAttempt, ?rate, ?noRate⟩
  case recover =>
    intro tag port htag ht hp f
    have ha : Asks (.portRecover tag port) s f (doPortRecover port.toNat s.taking) :=
      asks (h := fun _ => doPortRecover port.toNat) htag ht rfl rfl ⟨Nat.le_refl 1, Nat.le_refl 1⟩
    refine ⟨fun h => ?_, fun h => ?_, fun ho hr => ?_⟩
    · rw [doPortRecover_offline hp (by rwa [port_taking]), beginAttempt_recovering (by rw [port_taking, h]; decide),
        port_taking] at ha
      exact ha.answers rfl
    · rw [doPortRecover_recovering hp (by rwa [port_taking]), beginAttempt_eq, port_taking] at ha
      exact ha.answers rfl
    · exact ha.refused (doPortRecover_wrongState hp (by rwa [port_taking]) (by rwa [port_taking]))
  case badField =>
    intro tag port htag ht h
    exact (asks (h := fun _ => doPortRecover port.toNat) htag ht rfl rfl ⟨Nat.le_refl 1, Nat.le_refl 1⟩ :
      Asks (.portRecover tag port) s ⟨0x25, tag, [port]⟩ _).refused (field_none (portNo?_eq_none h) _)
  case hail => exact fun hl ht => ends_alone (i := .hailTimerExpiry p) (g := hailAgain p) rfl (if_pos ⟨hl, ht⟩)
  case noHail => exact fun h => ends_alone (i := .hailTimerExpiry p) (g := hailAgain p) rfl (hailAgain_nothing h)
  case wake => exact fun hl ht => ends_alone (i := .wakeTimerExpiry p) (g := wakeFails p) rfl (wakeFails_of hl ht)
  case noWake => exact fun h => ends_alone (i := .wakeTimerExpiry p) (g := wakeFails p) rfl (wakeFails_nothing h)
  case idle => exact fun hl hf ht => ends_settled (i := .idleTimerExpiry p) (g := sleepNow p) rfl (sleepNow_of hl hf ht)
  case noIdle => exact fun h => ends_nothing (i := .idleTimerExpiry p) (g := sleepNow p) rfl (sleepNow_nothing h)
  case next =>
    exact fun k hl ha hk => ends_alone (i := .attemptTimerExpiry p) (g := attemptExpires p) rfl (attemptExpires_next hl ha hk)
  case lost =>
    exact fun k hl ha hk => ends_alone (i := .attemptTimerExpiry p) (g := attemptExpires p) rfl (attemptExpires_lost hl ha hk)
  case noAttempt =>
    exact fun h => ends_alone (i := .attemptTimerExpiry p) (g := attemptExpires p) rfl (attemptExpires_nothing h)
  case rate =>
    intro hl slow t
    exact ends_alone (i := .rateWindowEnd p) (g := rateWindowEnds p) rfl (rateWindowEnds_of hl)
  case noRate => exact fun h => ends_alone (i := .rateWindowEnd p) (g := rateWindowEnds p) rfl (if_neg h)

end Sys2Proof.Machine
end

section
/-! PROOF. HELLO, STATE and CLEAR by link state (R87, R89, R91, R92, R114, R116). -/

namespace Sys2Proof.Machine

variable {s t : State} {p q : PortNo} {x : Port}

/-! ### Fields of a printer's frame -/

theorem colour?_byte {b : Byte} (h : b.toNat ≤ 1) : colour? b.toNat = some (if b = 1 then .color else .mono) := by
  have hb : b = 0 ∨ b = 1 := by bv_omega
  rcases hb with rfl | rfl <;> rfl

theorem colour?_eq_none {n : Nat} (h : 1 < n) : colour? n = none := by
  obtain ⟨k, rfl⟩ := Nat.exists_eq_add_of_lt h
  rw [show 1 + k + 1 = k + 2 by omega]
  rfl

theorem helloFrame_of {c d : Byte} {m z : Byte} {w : Nat} (hc : c.toNat ≤ 1) (hd : d.toNat ≤ 1) :
    helloFrame p c.toNat d.toNat m z w s
      = onHello p { colour := if c = 1 then .color else .mono, duplex := d == 1, media := m, size := z } (clampWindow w) s := by
  rw [helloFrame, colour?_byte hc, flag?_byte hd]

/-- A HELLO with a field out of range is discarded. -/
theorem helloFrame_badField {c d : Nat} {m z : Byte} {w : Nat} (h : 1 < c ∨ 1 < d) : helloFrame p c d m z w s = (s, []) := by
  unfold helloFrame
  split
  · next hc hd =>
    have := colour?_le hc
    have := flag?_le hd
    omega
  · rfl

theorem stateFrame_of {r d : Byte} {m : Byte} (hr : r.toNat ≤ 1) (hd : d.toNat ≤ 1) :
    stateFrame p r.toNat d.toNat m s = onState p (r == 1) (d == 1) m s := by
  rw [stateFrame, flag?_byte hr, flag?_byte hd]

theorem stateFrame_badField {r d : Nat} {m : Byte} (h : 1 < r ∨ 1 < d) : stateFrame p r d m s = (s, []) := by
  unfold stateFrame
  split
  · next hr hd =>
    have := flag?_le hr
    have := flag?_le hd
    omega
  · rfl

/-- On a link that is DOWN or OFFLINE a HELLO is dropped (R87). -/
theorem onHello_dropped {caps : Caps} {w : Nat} (h : (s.port p).link = .down ∨ (s.port p).link = .offline) :
    onHello p caps w s = (s, []) := by
  rcases h with h | h <;> rw [onHello, h]

theorem helloFrame_dropped {c d : Nat} {m z : Byte} {w : Nat} (h : (s.port p).link = .down ∨ (s.port p).link = .offline) :
    helloFrame p c d m z w s = (s, []) := by
  unfold helloFrame
  split
  · exact onHello_dropped h
  · rfl

theorem onHello_comesUp {caps : Caps} {w : Nat} (h : (s.port p).link = .waking ∨ (s.port p).link = .recovering) :
    onHello p caps w s = (comeUp p caps w s, [.settle]) := by
  rcases h with h | h <;> rw [onHello, h]

theorem onHello_renews {caps : Caps} {w : Nat} (hl : (s.port p).link = .up) (hf : (s.port p).inFlight = []) :
    onHello p caps w s = (renewCaps p caps w s,
      if (s.port p).usable && (s.port p).run.isNone then [.pull p, .settle] else [.settle]) := by
  rw [onHello, hl]
  exact if_pos (by simp [hf])

/-- A HELLO with sheets in flight is a sequence fault (R116). -/
theorem onHello_fault {caps : Caps} {w : Nat} (hl : (s.port p).link = .up) (hf : (s.port p).inFlight ≠ []) :
    onHello p caps w s = stall p 1 s := by
  rw [onHello, hl]
  exact if_neg (by simpa using hf)

/-- On a link that is not UP a STATE is dropped (R87). -/
theorem stateFrame_dropped {r d : Nat} {m : Byte} (h : (s.port p).link ≠ .up) : stateFrame p r d m s = (s, []) := by
  unfold stateFrame
  split
  · exact if_neg h
  · rfl

theorem onClear_nothing (h : (s.port p).link ≠ .up ∨ (s.port p).jammed = false) : onClear p s = (s, []) := by
  refine if_neg ?_
  rintro ⟨hl, hj⟩
  rcases h with h | h
  · exact h hl
  · simp [h] at hj

/-! ### A link that comes UP -/

theorem portBecomes_modPort_first {f : Port → Port} : (s.modPort p f).portBecomes p x = s.portBecomes p x := by
  rw [State.portBecomes, State.modPort, setPort_setPort]
  rfl

/-- A new rate window of a port that has just been written (R105). -/
theorem startRateWindow_portBecomes (hx : x.run = (s.port p).run) : startRateWindow p (s.portBecomes p x)
    = s.portBecomes p { x with rateCount := 0, busy := x.usable && s.runRunning p } := by
  have hport : (s.portBecomes p x).port p = x := by rw [port_portBecomes, if_pos rfl]
  rw [startRateWindow, State.busyNow, hport, runRunning_congr (t := s.portBecomes p x) (s := s) (by simp [State.portBecomes])
    (by rw [hport, hx]), portBecomes_modPort]

theorem startRateWindow_setPort (hx : x.run = (s.port p).run) : startRateWindow p (s.setPort p x)
    = s.setPort p { x with rateCount := 0, busy := x.usable && s.runRunning p } := by
  have hport : (s.setPort p x).port p = x := by rw [port_setPort, if_pos rfl]
  rw [startRateWindow, State.busyNow, hport, runRunning_congr (t := s.setPort p x) (s := s) (by simp) (by rw [hport, hx]),
    modPort_setPort]

theorem refreshWindow_portBecomes : refreshWindow p (s.portBecomes p x)
    = s.portBecomes p { x with effWindow := x.windowNow (s.portCfg p).window } := by
  rw [refreshWindow, portBecomes_modPort, show (s.portBecomes p x).portCfg p = s.portCfg p by simp [State.portBecomes, State.portCfg]]

theorem refreshWindow_setPort : refreshWindow p (s.setPort p x)
    = s.setPort p { x with effWindow := x.windowNow (s.portCfg p).window } := by
  rw [refreshWindow, modPort_setPort, show (s.setPort p x).portCfg p = s.portCfg p by simp [State.portCfg]]

/-- The port record after a HELLO with these capabilities (R89). -/
def Port.hello (x : Port) (caps : Caps) (w configured : Nat) : Port :=
  { x with caps := some caps, maxWindow := some w, effWindow := max (min configured w) x.inFlight.length, rateCount := 0 }

theorem comeUp_eq {caps : Caps} {w : Nat} (h : (s.port p).link ≠ .up) : comeUp p caps w s
    = (let z := { (s.port p).hello caps w (s.portCfg p).window with
        link := .up, wakeTimer := none, hailTimer := false, attempt := none }
      condOff p .wakeFail (condOff p .linkLost (condOff p .stall
        (s.portBecomes p { z with busy := z.usable && s.runRunning p })))) := by
  have hport (f : Port → Port) : (s.modPort p f).port p = f (s.port p) := by rw [port_modPort, if_pos rfl]
  rw [comeUp, setLink_eq (by rw [hport]; exact h), portBecomes_modPort_first, refreshWindow_portBecomes,
    startRateWindow_portBecomes (by rw [hport]), hport]
  rfl

theorem renewCaps_eq {caps : Caps} {w : Nat} (h : (s.port p).link = .up) : renewCaps p caps w s
    = s.setPort p { (s.port p).hello caps w (s.portCfg p).window with busy := (s.port p).usable && s.runRunning p } := by
  rw [renewCaps, State.modPort, refreshWindow_setPort, startRateWindow_setPort (by rfl), Port.windowNow, if_pos h]
  rfl

/-! ### The printer condition -/

theorem setCondition_eq {r j d : Bool} {m : Byte} : setCondition p r j d m s
    = (let y := { s.port p with ready := r, jammed := j, doorOpen := d, mediaEmpty := m }
      if y = s.port p then s else s.portBecomes p y) := by
  have hsame : { s.port p with ready := r, jammed := j, doorOpen := d, mediaEmpty := m } = s.port p
      ↔ (s.port p).ready = r ∧ (s.port p).jammed = j ∧ (s.port p).doorOpen = d ∧ (s.port p).mediaEmpty = m := by
    constructor
    · intro h
      rw [← h]
      exact ⟨rfl, rfl, rfl, rfl⟩
    · rintro ⟨rfl, rfl, rfl, rfl⟩
      rfl
  dsimp only
  by_cases h : { s.port p with ready := r, jammed := j, doorOpen := d, mediaEmpty := m } = s.port p
  · rw [if_pos h]
    exact if_pos (hsame.mp h)
  · rw [if_neg h]
    exact if_neg (mt hsame.mpr h)

/-- DOOR follows the door (R91). -/
theorem port_evalDoor : ∃ l, (evalDoor p s).port p
    = { s.port p with conds := { (s.port p).conds with door := (s.port p).doorOpen }, lamps := l } := by
  unfold evalDoor
  split
  · next h =>
    obtain ⟨l, hl⟩ := port_condOn_self (s := s) (p := p) .door none
    exact ⟨l, by rw [hl, h]; rfl⟩
  · next h =>
    obtain ⟨l, hl⟩ := port_condOff_self (s := s) (p := p) .door
    exact ⟨l, by rw [hl, Bool.not_eq_true _ |>.mp h]; rfl⟩

/-- MEDIA_OUT by the run job, off with an empty run slot (R91). -/
theorem port_evalMedia_both : ∃ l, (evalMedia p s).port p = { s.port p with
    conds := { (s.port p).conds with mediaOut := match s.runJob p with
      | some j => (s.port p).mediaEmpty.getLsbD j.media.val
      | none => false }, lamps := l } := by
  cases hj : s.runJob p with
  | some j => exact port_evalMedia_self hj
  | none =>
    rw [evalMedia, hj]
    exact port_condOff_self (s := s) (p := p) .mediaOut

theorem runJob_congr (hjt : t.jt = s.jt) (hrun : (t.port p).run = (s.port p).run) : t.runJob p = s.runJob p := by
  unfold State.runJob State.job?
  rw [hrun, hjt]

/-- Settles O44: HELLO and STATE by their fields and the link state, CLEAR by JAMMED. -/
theorem printerReports : Obligations.PrinterReports := by
  unfold Obligations.PrinterReports
  intro s p x u then_
  have hthen (w : State) : usableTasks p u w ++ [.settle] = then_ w := usableTasks_settle (s := u) (t := s) rfl w
  refine ⟨?hello, ?state, ?clear, ?noClear⟩
  case hello =>
    intro colour duplex media size maxWindow i
    have hi : exec i s = .next (act (helloFrame p colour.toNat duplex.toNat media size maxWindow.toNat) s) := rfl
    refine ⟨fun h => ends_nothing hi ?_, fun hc hd => ?_⟩
    · rcases h with h | h | h | h
      · exact helloFrame_badField (.inl h)
      · exact helloFrame_badField (.inr h)
      · exact helloFrame_dropped (s := u) (.inl h)
      · exact helloFrame_dropped (s := u) (.inr h)
    intro w y
    have hframe : helloFrame p colour.toNat duplex.toNat media size maxWindow.toNat u = onHello p _ w u :=
      helloFrame_of hc hd
    refine ⟨fun h => ?_, fun hl hf => ?_, fun hl hf => ?_⟩
    · intro z
      have hup : (u.port p).link ≠ .up := by rcases h with h | h <;> exact fun hl => nomatch hl.symm.trans h
      exact ends_settled hi (hframe.trans ((onHello_comesUp (s := u) h).trans (congrArg (·, [Task.settle]) (comeUp_eq (s := u) hup))))
    · refine ends_then hi (hframe.trans ((onHello_renews (s := u) hl hf).trans (Prod.ext (renewCaps_eq (s := u) hl) ?_)))
      exact if_congr (by rw [Bool.and_eq_true, Option.isNone_iff_eq_none]; rfl) rfl rfl
    · exact ends_then hi (hframe.trans (onHello_fault (s := u) hl hf))
  case state =>
    intro ready door media i
    have hi : exec i s = .next (act (stateFrame p ready.toNat door.toNat media) s) := rfl
    refine ⟨fun h => ends_nothing hi ?_, fun hr hd hl => ?_⟩
    · rcases h with h | h | h
      · exact stateFrame_badField (.inl h)
      · exact stateFrame_badField (.inr h)
      · exact stateFrame_dropped (s := u) h
    intro y w
    have hw : onState p (ready == 1) (door == 1) media u = (w, usableTasks p u w ++ [.settle]) :=
      (if_pos hl).trans (congrArg (fun v => (evalMedia p (evalDoor p v), usableTasks p u (evalMedia p (evalDoor p v)) ++ [.settle]))
        (setCondition_eq (s := u)))
    have hport : (if y = x then u else u.portBecomes p y).port p = y := by
      split
      · next h => exact h.symm
      · rw [port_portBecomes, if_pos rfl]
    have hjt : (if y = x then u else u.portBecomes p y).jt = s.jt := by
      split
      · rfl
      · simp only [State.portBecomes, notePort_frame, setPort_frame]
        rfl
    obtain ⟨l, hl1⟩ := port_evalDoor (s := if y = x then u else u.portBecomes p y) (p := p)
    have hjob : (evalDoor p (if y = x then u else u.portBecomes p y)).runJob p = s.runJob p :=
      runJob_congr ((evalDoor_frame p).2.2.1.trans hjt) (by rw [hl1, hport])
    obtain ⟨l', hl2⟩ := port_evalMedia_both (s := evalDoor p (if y = x then u else u.portBecomes p y)) (p := p)
    rw [hjob, hl1, hport] at hl2
    have hend := ends_then hi ((stateFrame_of hr hd).trans hw)
    rw [hthen] at hend
    exact ⟨hend, congrArg (fun z : Port => z.conds.door) hl2, congrArg (fun z : Port => z.conds.mediaOut) hl2⟩
  case clear =>
    intro hl hj w
    have hw : onClear p u = (w, usableTasks p u w ++ [.settle]) :=
      (if_pos ⟨hl, hj⟩).trans (congrArg (fun v => (condOff p .jam v, usableTasks p u (condOff p .jam v) ++ [.settle]))
        ((setCondition_eq (s := u)).trans (if_neg fun h => by simpa [show (u.port p).jammed = true from hj] using congrArg Port.jammed h)))
    have hend := ends_then (i := .clear p) (g := onClear p) rfl hw
    rw [hthen] at hend
    exact hend
  case noClear =>
    intro h
    exact ends_nothing (i := .clear p) (g := onClear p) rfl (onClear_nothing (s := u) h)

end Sys2Proof.Machine
end

section
/-! PROOF. A sheet on its way: the end of its transfer, TAKEN and OUT (R102, R103, R104, R115, R116, R141). -/

namespace Sys2Proof.Machine

variable {s t : State} {p q : PortNo} {n : Nat} {j : Job} {f : Flight} {l rest : List Flight} {tag : Byte}

/-! ### What follows, one task at a time -/

/-- A task is run, and what it brings about comes before the tasks behind it (log 8). -/
theorem cascade_cons (k : Task) (ts : List Task) (s : State) :
    cascade (k :: ts) s = cascade ((runTask k s).2 ++ ts) (runTask k s).1 := by
  have hweight := weight_runTask (s := s) k
  have hcons : tasksWeight (k :: ts) = k.weight + tasksWeight ts := by simp [tasksWeight]
  have happ : tasksWeight ((runTask k s).2 ++ ts) = tasksWeight (runTask k s).2 + tasksWeight ts := by simp [tasksWeight]
  have hfuel (us : List Task) (v : State) : cascadeFuel us v = tasksWeight us + v.weight + 1 := cascadeFuel_eq us
  rw [cascade, cascade, hfuel, hfuel, runTasks]
  exact runTasks_fuel _ _ (by omega) (by omega)

theorem cascade_step {k : Task} {ts pre : List Task} {v : State} (h : runTask k s = (v, pre)) :
    cascade (k :: ts) s = cascade (pre ++ ts) v := by
  rw [cascade_cons, h]

/-! ### The newest and the oldest record -/

theorem newestIs_append {st : FlightStage} {o : Option Byte} :
    newestIs (l ++ [f]) st o = (f.stage == st && (match o with
      | none => true
      | some t => f.tag == t)) := by
  rw [newestIs, List.getLast?_append]
  rfl

theorem markNewest_append {st : FlightStage} : markNewest st (l ++ [f]) = l ++ [{ f with stage := st }] := by
  simp [markNewest]

theorem newestIs_false {st : FlightStage} (h : ∀ f ∈ l.getLast?, f.stage ≠ st) (o : Option Byte) : newestIs l st o = false := by
  unfold newestIs
  split
  · rfl
  · next f hf => simp [h f hf]

theorem newestIs_tag_false {st : FlightStage} (h : ∀ f ∈ l.getLast?, f.stage ≠ st ∨ f.tag ≠ tag) :
    newestIs l st (some tag) = false := by
  unfold newestIs
  split
  · rfl
  · next f hf => rcases h f hf with h | h <;> simp [h]

/-! ### The end of a transfer and TAKEN -/

/-- The progress watchdog as it is armed (R115). -/
def armed (timeout : Nat) : Option Nat := if timeout = 0 then none else some timeout

theorem transferEnds_of (hl : (s.port p).inFlight = l ++ [f]) (hf : f.stage = .sending) : transferEnds p s
    = { s.setPort p { s.port p with inFlight := l ++ [{ f with stage := .sent }], transfer := []
                                    watchdog := armed (s.portCfg p).progress } with
        pressOut := s.pressOut ++ (s.port p).transfer.map (fun g => (p, g)) } := by
  rw [transferEnds, if_pos (by rw [hl, newestIs_append, hf]; rfl)]
  have hmark : markNewest .sent (s.port p).inFlight = l ++ [{ f with stage := .sent }] := by rw [hl, markNewest_append]
  rw [← hmark]
  exact congrArg (fun v : State => { v with pressOut := s.pressOut ++ (s.port p).transfer.map (fun g => (p, g)) })
    (modPort_modPort (s := s) (p := p) (f := fun x => { x with inFlight := markNewest .sent x.inFlight, transfer := [] })
      (g := fun x => { x with watchdog := armed (s.portCfg p).progress }))

theorem onTaken_of (hup : (s.port p).link = .up) (hl : (s.port p).inFlight = l ++ [f]) (hf : f.stage = .sent)
    (ht : f.tag = tag) : onTaken p tag s = (s.setPort p { s.port p with
      inFlight := l ++ [{ f with stage := .taken }], watchdog := armed (s.portCfg p).progress }, [.dispatch p, .settle]) := by
  rw [onTaken, if_neg (not_not.mpr hup), if_pos (by rw [hl, newestIs_append, hf, ht]; simp)]
  rw [startWatchdog, modPort_modPort, State.modPort]
  dsimp only
  rw [hl, markNewest_append]
  rfl

theorem onTaken_fault (hup : (s.port p).link = .up) (h : ∀ f ∈ (s.port p).inFlight.getLast?, f.stage ≠ .sent ∨ f.tag ≠ tag) :
    onTaken p tag s = stall p 1 s := by
  rw [onTaken, if_neg (not_not.mpr hup), if_neg (by rw [newestIs_tag_false h]; decide)]
  rfl

/-! ### OUT -/

theorem onOut_fault (hup : (s.port p).link = .up) (h : ∀ f ∈ (s.port p).inFlight.head?, f.stage ≠ .taken ∨ f.tag ≠ tag) :
    onOut p tag s = stall p 1 s := by
  rw [onOut, if_neg (not_not.mpr hup)]
  cases hl : (s.port p).inFlight with
  | nil => rfl
  | cons f rest =>
    refine if_neg ?_
    rw [hl] at h
    rintro ⟨hs, ht⟩
    exact (h f rfl).elim (· hs) (· ht)

theorem onOut_of (hup : (s.port p).link = .up) (hl : (s.port p).inFlight = f :: rest) (hf : f.stage = .taken)
    (ht : f.tag = tag) : onOut p tag s = (deliver p f rest s, [.runEnd p .out, .dispatch p, .settle]) := by
  rw [onOut, if_neg (not_not.mpr hup), hl]
  exact if_pos ⟨hf, ht⟩

/-- The port record after an OUT (R104, R105, R106, R115). -/
def Port.delivers (x : Port) (f : Flight) (rest : List Flight) (c : PortSettings) : Port :=
  { x with
    inFlight := rest, rateCount := min 255 (x.rateCount + 1)
    effWindow := max (min c.window (x.maxWindow.getD 0)) rest.length
    watchdog := if rest.any (fun g => g.stage != .sending) then armed c.progress else none
    meters := { x.meters with
      sheets := min 4294967295 (x.meters.sheets + 1), impressions := min 4294967295 (x.meters.impressions + f.sides) } }

theorem portDelivers_eq (hup : (s.port p).link = .up) :
    portDelivers p f rest s = s.setPort p ((s.port p).delivers f rest (s.portCfg p)) := by
  have hwaiting : rest.any (fun g => g.stage == .sent || g.stage == .taken) = rest.any (fun g => g.stage != .sending) :=
    congrArg (List.any rest) (funext fun g => by cases g.stage <;> rfl)
  rw [portDelivers, State.modPort, refreshWindow_setPort, Port.windowNow, if_pos hup, hwaiting, Port.delivers]
  split
  · rw [startWatchdog, modPort_setPort]
    rfl
  · rw [modPort_setPort]
    rfl

/-- The account record after an OUT (R141). -/
def Account.delivers (a : Account) (f : Flight) : Account :=
  { a with
    periodCharged := min 4294967295 (a.periodCharged + f.charge)
    lifeCharged := min 281474976710655 (a.lifeCharged + f.charge)
    periodImpressions := min 4294967295 (a.periodImpressions + f.sides)
    lifeImpressions := min 281474976710655 (a.lifeImpressions + f.sides)
    periodSheets := min 4294967295 (a.periodSheets + 1) }

/-- The state after a sheet of job `j` is delivered. -/
def State.delivered (s : State) (p : PortNo) (f : Flight) (rest : List Flight) (j : Job) : State :=
  (((s.setPort p ((s.port p).delivers f rest (s.portCfg p))).modJob f.job (fun _ => j.delivers f)).setAccount j.account
    ((s.account j.account).delivers f)).setReservation j.account
      { mills := (s.reservation j.account).mills - f.charge, impressions := (s.reservation j.account).impressions - f.sides }

theorem deliver_eq (hup : (s.port p).link = .up) (hj : s.job? f.job = some j) : deliver p f rest s = s.delivered p f rest j := by
  have hn := job?_ne_zero hj
  rw [deliver, hj]
  dsimp only
  rw [portDelivers_eq (by exact hup), modJob_congr (s := chargeAccount j.account f.charge f.sides s) (f := fun j => j.delivers f) (g := fun _ => j.delivers f)
    hn hj rfl]
  rfl

theorem job?_delivered (hj : s.job? f.job = some j) : (s.delivered p f rest j).job? f.job = some (j.delivers f) := by
  have hconst : s.modJob f.job (fun _ => j.delivers f) = s.modJob f.job (fun j => j.delivers f) :=
    modJob_congr (job?_ne_zero hj) hj rfl
  have hself : (s.modJob f.job (fun _ => j.delivers f)).job? f.job = some (j.delivers f) := by
    rw [hconst]
    exact job?_modJob_self (f := fun j => j.delivers f) (fun _ => rfl) hj
  exact hself

theorem port_delivered : (s.delivered p f rest j).port q
    = if q = p then (s.port p).delivers f rest (s.portCfg p) else s.port q :=
  port_setPort ..

/-! ### A run slot that nobody takes -/

theorem port_leaveRun : ∃ l c, (leaveRun p s).port p = { s.port p with run := none, busy := false, lamps := l, conds := c } := by
  obtain ⟨l, h⟩ := port_evalMedia_both (s := s.modPort p (fun x => { x with run := none, busy := false })) (p := p)
  exact ⟨l, _, by rw [leaveRun, h, port_modPort, if_pos rfl]⟩

theorem port_finishes {st : JobState} {r : JobReason} : ∃ l c, (s.finishes n st r).port q
    = { s.port q with lamps := l, conds := c } := by
  have hport : (s.finishes n st r).port q = (s.retires n s.mlc.clock).port q := by
    rw [finishes_eq, State.port, (noteJob_frame n r).2.2.2.2.1]
    rfl
  obtain ⟨l, h⟩ := port_evalSpoolLow (s := { s.modJob n (Job.retired s.mlc.clock) with smm := { s.smm with
    free := s.smm.free ++ s.smm.chainsOf n
    images := s.smm.images.filter (fun x => x.job != n) } }) q
  exact ⟨l, _, hport.trans h⟩

/-- Nobody waits at a port of which no slot, queue or condition of use has changed. -/
theorem nobodyWaits_of {y : Port} (hs : s.port p = y) (hinc : y.inc = none) (hsusp : ∀ u ∈ y.susp, u.reason = .host)
    (hu : y.usable = false) : s.nobodyWaits p := by
  rw [← hs] at hinc hsusp hu
  exact ⟨hinc, hsusp, hu⟩

theorem nobodyWaits_leaveRun (h : s.nobodyWaits p) : (leaveRun p s).nobodyWaits p := by
  obtain ⟨l, c, hport⟩ := port_leaveRun (s := s) (p := p)
  exact nobodyWaits_of hport h.1 h.2.1 h.2.2

theorem nobodyWaits_finishes {st : JobState} {r : JobReason} (h : s.nobodyWaits p) : (s.finishes n st r).nobodyWaits p := by
  obtain ⟨l, c, hport⟩ := port_finishes (s := s) (n := n) (st := st) (r := r) (q := p)
  exact nobodyWaits_of hport h.1 h.2.1 h.2.2

/-- The pull and the dispatch that follow at a port nobody waits at come to nothing. -/
theorem cascade_pull_dispatch (h : s.nobodyWaits p) : cascade [.pull p, .dispatch p, .settle] s = settle s :=
  cascade_idle_settle (pre := [.pull p, .dispatch p]) fun k hk => by
    simp only [List.mem_cons, List.not_mem_nil, or_false] at hk
    rcases hk with rfl | rfl
    · exact pull_nothing (.inr h)
    · exact dispatch_nothing h.2.2

/-! ### After an OUT -/

theorem runJob_delivered (hj : s.job? f.job = some j) (hrun : (s.port p).run = some f.job) :
    (s.delivered p f rest j).runJob p = some (j.delivers f) := by
  have hport : ((s.delivered p f rest j).port p).run = some f.job := by rw [port_delivered, if_pos rfl]; exact hrun
  rw [State.runJob, hport]
  exact job?_delivered hj

theorem onOut_delivers (hup : (s.port p).link = .up) (hl : (s.port p).inFlight = f :: rest) (hf : f.stage = .taken)
    (ht : f.tag = tag) (hj : s.job? f.job = some j) :
    onOut p tag s = (s.delivered p f rest j, [.runEnd p .out, .dispatch p, .settle]) := by
  rw [onOut_of hup hl hf ht, deliver_eq hup hj]

/-- An OUT after which the run job goes on, at a port that is not usable. -/
theorem cascade_out_goesOn (hj : s.job? f.job = some j) (hst : j.state = .running ∨ j.state = .starved)
    (hrun : (s.port p).run = some f.job) (hu : (s.port p).usable = false)
    (hw : ¬ (j.dataClosed = true ∧ j.total = some (j.delivers f).delivered)) :
    cascade [.runEnd p .out, .dispatch p, .settle] (s.delivered p f rest j) = settle (s.delivered p f rest j) := by
  have hnone : runEnd p .out (s.delivered p f rest j) = (s.delivered p f rest j, []) :=
    runEnd_nothing (runJob_delivered hj hrun) (fun _ => hw) (.inr (by
      show j.state ∉ _
      rcases hst with h | h <;> simp [h]))
  have hstill : ((s.delivered p f rest j).port p).usable = false := by rw [port_delivered, if_pos rfl]; exact hu
  rw [cascade_step (k := .runEnd p .out) hnone, List.nil_append]
  exact cascade_idle_settle (pre := [.dispatch p]) fun k hk => by
    rw [List.mem_singleton.mp hk]
    exact dispatch_nothing hstill

/-- An OUT of the last sheet of closed data, at a port nobody waits at (R43). -/
theorem cascade_out_last (hj : s.job? f.job = some j)
    (hst : j.state = .running ∨ j.state = .starved ∨ j.state = .draining) (hrun : s.runsAt p f.job) (hwaits : s.nobodyWaits p)
    (hc : j.dataClosed = true) (htotal : j.total = some (j.delivers f).delivered) :
    cascade [.runEnd p .out, .dispatch p, .settle] (s.delivered p f rest j)
      = settle ((leaveRun p (s.delivered p f rest j)).finishes f.job .done .delivery) := by
  have hat : (s.delivered p f rest j).runsAt p f.job := fun q => by
    rw [← hrun q, port_delivered]
    split
    · next h => rw [h]; rfl
    · rfl
  have hwaits' : (s.delivered p f rest j).nobodyWaits p :=
    nobodyWaits_of (port_delivered.trans (if_pos rfl)) hwaits.1 hwaits.2.1 hwaits.2.2
  have hend : runEnd p .out (s.delivered p f rest j)
      = ((leaveRun p (s.delivered p f rest j)).finishes f.job .done .delivery, [.pull p]) :=
    runEnd_delivers (job?_delivered hj) hat rfl hst ⟨hc, htotal⟩
  rw [cascade_step (k := .runEnd p .out) hend]
  exact cascade_pull_dispatch (nobodyWaits_finishes (nobodyWaits_leaveRun hwaits'))

/-- Settles O45: each event by the record it speaks of; an OUT leaves `State.delivered`. -/
theorem sheetsDelivered : Obligations.SheetsDelivered := by
  unfold Obligations.SheetsDelivered
  intro s p tag x u armed fault
  refine ⟨?ends, ?noEnd, ?dropped, fun hup => ⟨?taken, ?noTaken, ?noOut, ?out⟩⟩
  case ends =>
    intro l f hl hf
    exact ends_alone (i := .transferEnd p) (g := transferEnds p) rfl (transferEnds_of (s := u) hl hf)
  case noEnd =>
    intro h
    refine ends_alone (i := .transferEnd p) (g := transferEnds p) rfl (if_neg ?_)
    rw [newestIs_false (l := (u.port p).inFlight) h]
    decide
  case dropped =>
    intro h
    exact ⟨ends_nothing (i := .taken p tag) (g := onTaken p tag) rfl (if_pos h),
      ends_nothing (i := .out p tag) (g := onOut p tag) rfl (if_pos h)⟩
  case taken =>
    intro l f hl hf ht
    exact ends_then (i := .taken p tag) (g := onTaken p tag) rfl (onTaken_of (s := u) hup hl hf ht)
  case noTaken =>
    exact fun h => ends_then (i := .taken p tag) (g := onTaken p tag) rfl (onTaken_fault (s := u) hup h)
  case noOut =>
    exact fun h => ends_then (i := .out p tag) (g := onOut p tag) rfl (onOut_fault (s := u) hup h)
  case out =>
    intro f rest j hl hf ht hj a r k y w
    have hend : Ends (.out p tag) s (cascade [.runEnd p .out, .dispatch p, .settle] (u.delivered p f rest j)) :=
      ends_then (i := .out p tag) (g := onOut p tag) rfl (onOut_delivers (s := u) hup hl hf ht hj)
    refine ⟨hend, fun hst hrun hu hwhole => ?_, fun hst hrun hwaits hc htotal => ?_⟩
    · rw [cascade_out_goesOn (s := u) hj hst hrun hu hwhole] at hend
      exact hend
    · rw [cascade_out_last (s := u) hj hst hrun hwaits hc htotal] at hend
      exact hend

end Sys2Proof.Machine
end

section
/-! PROOF. The rewind of an in-flight list, by a JAM or a stall (R109, R112, R117, R142). -/

namespace Sys2Proof.Machine

variable {s t : State} {p q : PortNo} {n : Nat} {j : Job}

/-! ### The count and the rewind -/

theorem takenCount_eq (l : List Flight) : takenCount l = l.countP (fun f => f.stage == .taken) := List.countP_eq_length_filter.symm

/-- Port `p`, job `n` and account `a` after a count. -/
def State.counted (s : State) (p : PortNo) (n : Nat) (a : Fin 128) (y : Port) (g : Job → Job) (b : Account) : State :=
  ((s.setPort p y).modJob n g).setAccount a b

/-- Port `p`, job `n` and account `a` with its reservation after a rewind. -/
def State.rewound (s : State) (p : PortNo) (n : Nat) (a : Fin 128) (y : Port) (g : Job → Job) (b : Account) (r : Reserved) :
    State :=
  (s.counted p n a y g b).setReservation a r

/-- The port record after a rewind (R109). -/
def Port.rewound (x : Port) (configured : Nat) : Port :=
  { x with inFlight := [], transfer := [], watchdog := none, effWindow := min configured (x.maxWindow.getD 0) }

/-- The port record with `d` more spoiled sheets (R112). -/
def Port.spoils (x : Port) (d : Nat) : Port :=
  { x with meters := { x.meters with spoiled := min 4294967295 (x.meters.spoiled + d) } }

/-- The port record with `d` more doubtful sheets (R117). -/
def Port.doubts (x : Port) (d : Nat) : Port :=
  { x with meters := { x.meters with doubtful := min 4294967295 (x.meters.doubtful + d) } }

def Job.spoils (d : Nat) (j : Job) : Job := { j with spoiled := min 4294967295 (j.spoiled + d) }
def Job.doubts (d : Nat) (j : Job) : Job := { j with doubtful := min 4294967295 (j.doubtful + d) }
def Account.spoils (a : Account) (d : Nat) : Account := { a with periodWaste := min 4294967295 (a.periodWaste + d) }
def Account.doubts (a : Account) (d : Nat) : Account := { a with periodDoubtful := min 4294967295 (a.periodDoubtful + d) }

/-- The job record after a rewind, its state not yet tested (R109). -/
def Job.rewinds (j : Job) : Job := { j with cursor := j.delivered, inFlight := 0 }

/-- The state of a job once a rewind has tested it (R41, R109). -/
def Job.rewoundState (j : Job) : JobState :=
  if j.state = .running ∨ j.state = .starved then
    (if j.dataClosed = false ∧ j.delivered = j.limit then JobState.starved else .running)
  else j.state

theorem runJob_modPort {f : Port → Port} (hf : ∀ x, (f x).run = x.run) : (s.modPort p f).runJob p = s.runJob p :=
  runJob_congr (s := s) rfl (by rw [port_modPort, if_pos rfl, hf])

theorem countSpoiled_eq {d : Nat} (hrun : s.runJob p = some j) : countSpoiled p d s
    = s.counted p j.num j.account ((s.port p).spoils d) (Job.spoils d) ((s.account j.account).spoils d) := by
  rw [countSpoiled]
  dsimp only
  rw [runJob_modPort (by intro; rfl), hrun]
  rfl

theorem countSpoiled_none {d : Nat} (hrun : s.runJob p = none) : countSpoiled p d s = s.setPort p ((s.port p).spoils d) := by
  rw [countSpoiled]
  dsimp only
  rw [runJob_modPort (by intro; rfl), hrun]
  rfl

theorem countDoubtful_eq {d : Nat} (hrun : s.runJob p = some j) : countDoubtful p d s
    = s.counted p j.num j.account ((s.port p).doubts d) (Job.doubts d) ((s.account j.account).doubts d) := by
  rw [countDoubtful]
  dsimp only
  rw [runJob_modPort (by intro; rfl), hrun]
  rfl

theorem countDoubtful_none {d : Nat} (hrun : s.runJob p = none) : countDoubtful p d s = s.setPort p ((s.port p).doubts d) := by
  rw [countDoubtful]
  dsimp only
  rw [runJob_modPort (by intro; rfl), hrun]
  rfl

/-- The emptied list of an UP port, its job aside (R109). -/
theorem emptyList_eq {y : Port} (hup : y.link = .up) :
    refreshWindow p ((s.setPort p y).modPort p (fun x => { x with inFlight := [], transfer := [], watchdog := none }))
      = s.setPort p (y.rewound (s.portCfg p).window) := by
  rw [modPort_setPort, refreshWindow_setPort, Port.windowNow, if_pos hup]
  simp only [List.length_nil, Nat.max_zero]
  rfl

/-! ### The job side of a rewind -/

theorem job?_counted {a : Fin 128} {y : Port} {g : Job → Job} {b : Account} (hg : ∀ j, (g j).num = j.num)
    (hj : s.job? n = some j) : (s.counted p n a y g b).job? n = some (g j) := job?_modJob_self (s := s.setPort p y) hg hj

theorem port_counted {a : Fin 128} {y : Port} {g : Job → Job} {b : Account} :
    (s.counted p n a y g b).port q = if q = p then y else s.port q := port_setPort ..

/-- The test of a run job after its rewind, with all that it changes (R41, R105). -/
theorem starvedTest_rewound (hj : t.job? n = some j) (hc : j.cursor = j.delivered)
    (hat : j.state = .running → j.rewoundState = .starved → t.runsAt p n) : starvedTest n .fault t
    = (let st := j.rewoundState
      let v := (t.modPort p (fun x => { x with busy := x.busy && (decide (st ≠ .starved) || decide (st = j.state)) })).modJob n
        (fun k => { k with state := st })
      if st = j.state then v else v.noteJob n .fault) := by
  have hkeep (h : j.rewoundState ≠ .starved ∨ j.rewoundState = j.state) (x : Port) :
      (x.busy && (decide (j.rewoundState ≠ .starved) || decide (j.rewoundState = j.state))) = x.busy := by
    rcases h with h | h <;> simp [h]
  have hsame (h : j.rewoundState = j.state) : (t.modPort p (fun x => { x with busy := x.busy
      && (decide (j.rewoundState ≠ .starved) || decide (j.rewoundState = j.state)) })).modJob n
        (fun k => { k with state := j.rewoundState }) = t := by
    simp only [hkeep (.inr h)]
    rw [show (fun x : Port => { x with busy := x.busy }) = id from rfl, modPort_id]
    exact modJob_same hj (by rw [h])
  dsimp only
  by_cases hst : j.state = .running ∨ j.state = .starved
  · have hrun : j.runState = j.rewoundState := by rw [runState_eq, Job.rewoundState, if_pos hst, hc]
    have htest : starvedTest n .fault t = setJobState n j.rewoundState .fault t := by
      rw [starvedTest, hj, ← hrun]
      exact if_pos hst
    rw [htest]
    by_cases heq : j.rewoundState = j.state
    · rw [if_pos heq, hsame heq, setJobState_same hj heq.symm]
    · rw [if_neg heq]
      by_cases hs : j.rewoundState = .starved
      · have hrunning : j.state = .running := hst.resolve_right fun h => heq (hs.trans h.symm)
        have hbusy (x : Port) : (x.busy && (decide (j.rewoundState ≠ .starved) || decide (j.rewoundState = j.state))) = false := by
          simp [hs, hrunning]
        rw [setJobState_at hj (Ne.symm heq) (runPort_eq fun q => hat hrunning hs q) (by rw [hs]; decide), modPort_noteJob]
        simp only [hbusy]
        rfl
      · have hr : j.rewoundState = .running := by
          rw [Job.rewoundState, if_pos hst] at hs ⊢
          split at hs
          · exact absurd rfl hs
          · next h => exact if_neg h
        simp only [hkeep (.inl hs)]
        rw [show (fun x : Port => { x with busy := x.busy }) = id from rfl, modPort_id, hr,
          setJobState_running hj (by rw [← hr]; exact Ne.symm heq)]
  · have heq : j.rewoundState = j.state := if_neg hst
    rw [if_pos heq, hsame heq, starvedTest, hj]
    exact if_neg hst

theorem release_counted {a : Fin 128} {y : Port} {g : Job → Job} {b : Account} {charge sides : Nat} :
    release a charge sides (s.counted p n a y g b) = s.rewound p n a y g b
      { mills := (s.reservation a).mills - charge, impressions := (s.reservation a).impressions - sides } := rfl

/-- The reservation a rewind leaves (R142). -/
def Reserved.less (r : Reserved) (l : List Flight) : Reserved :=
  { mills := r.mills - (l.map (fun f => f.charge)).sum, impressions := r.impressions - (l.map (fun f => f.sides)).sum }

/-- The state a rewind leaves of a counted port with run job `j`, whose link state or printer condition is to change. -/
def State.rewinds (s : State) (p : PortNo) (j : Job) (y : Port) (g : Job → Job) (b : Account) : State :=
  let st := j.rewoundState
  let v := s.rewound p j.num j.account
    { y with busy := y.busy && (decide (st ≠ .starved) || decide (st = j.state)) }
    (fun k => { (g k).rewinds with state := st }) b ((s.reservation j.account).less (s.port p).inFlight)
  if st = j.state then v else v.noteJob j.num .fault

theorem port_rewound {a : Fin 128} {y : Port} {g : Job → Job} {b : Account} {r : Reserved} :
    (s.rewound p n a y g b r).port q = if q = p then y else s.port q := port_setPort ..

theorem rewound_modPort {a : Fin 128} {y : Port} {g : Job → Job} {b : Account} {r : Reserved} {f : Port → Port} :
    (s.rewound p n a y g b r).modPort p f = s.rewound p n a (f y) g b r :=
  congrArg (fun v : State => ((v.modJob n g).setAccount a b).setReservation a r) modPort_setPort

theorem rewound_modJob {a : Fin 128} {y : Port} {g h : Job → Job} {b : Account} {r : Reserved} (hg : ∀ j, (g j).num = j.num) :
    (s.rewound p n a y g b r).modJob n h = s.rewound p n a y (fun k => h (g k)) b r :=
  congrArg (fun v : State => (v.setAccount a b).setReservation a r) (modJob_modJob hg)

/-- A count of spoiled or doubtful sheets changes nothing else of a job record. -/
def Counts (g : Job → Job) : Prop := ∀ j, ∃ a b, g j = { j with spoiled := a, doubtful := b }

theorem counts_spoils (d : Nat) : Counts (Job.spoils d) := fun _ => ⟨_, _, rfl⟩
theorem counts_doubts (d : Nat) : Counts (Job.doubts d) := fun _ => ⟨_, _, rfl⟩

section Counts

variable {g : Job → Job} (hg : Counts g) (j : Job)

include hg

theorem Counts.num : (g j).num = j.num := by obtain ⟨a, b, h⟩ := hg j; rw [h]
theorem Counts.account : (g j).account = j.account := by obtain ⟨a, b, h⟩ := hg j; rw [h]
theorem Counts.state : (g j).state = j.state := by obtain ⟨a, b, h⟩ := hg j; rw [h]
theorem Counts.rewoundState : (g j).rewoundState = j.rewoundState := by obtain ⟨a, b, h⟩ := hg j; rw [h]; rfl

end Counts

theorem counted_modPort {a : Fin 128} {y : Port} {g : Job → Job} {b : Account} (hup : y.link = .up) :
    refreshWindow p ((s.counted p n a y g b).modPort p (fun x => { x with inFlight := [], transfer := [], watchdog := none }))
      = s.counted p n a (y.rewound (s.portCfg p).window) g b :=
  congrArg (fun v : State => (v.modJob n g).setAccount a b) (emptyList_eq hup)

theorem rewindJob_eq {l : List Flight} : rewindJob j l s = starvedTest j.num .fault
    ((release j.account (l.map (fun f => f.charge)).sum (l.map (fun f => f.sides)).sum s).modJob j.num Job.rewinds) := rfl

theorem rewind_counted {y : Port} {g : Job → Job} {b : Account} (hup : y.link = .up) (hrun : y.run = some j.num)
    (hlist : y.inFlight = (s.port p).inFlight) (hx : (s.port p).run = some j.num) (hj : s.job? j.num = some j) (hg : Counts g)
    (hat : j.state = .running → j.rewoundState = .starved → s.runsAt p j.num) :
    rewind p (s.counted p j.num j.account y g b) = s.rewinds p j (y.rewound (s.portCfg p).window) g b := by
  have hport : (s.counted p j.num j.account y g b).port p = y := port_counted.trans (if_pos rfl)
  have hjob : (s.counted p j.num j.account y g b).runJob p = some (g j) := by
    rw [State.runJob, hport, hrun]
    exact job?_counted hg.num hj
  have hself {r : Reserved} {z : Port} : (s.rewound p j.num j.account z (fun k => (g k).rewinds) b r).job? j.num
      = some (g j).rewinds :=
    job?_counted (a := j.account) (b := b) (g := fun k => (g k).rewinds) hg.num hj
  have hst : (g j).rewinds.rewoundState = j.rewoundState := hg.rewoundState j
  have hst' : (g j).rewinds.state = j.state := hg.state j
  have hats {r : Reserved} (h1 : j.state = .running) (h2 : j.rewoundState = .starved) :
      (s.rewound p j.num j.account (y.rewound (s.portCfg p).window) (fun k => (g k).rewinds) b r).runsAt p j.num := fun q => by
    rw [← hat h1 h2 q]
    rw [port_rewound]
    split
    · next h => rw [h, hx]; exact ⟨fun _ => rfl, fun _ => hrun⟩
    · rfl
  unfold rewind
  dsimp only
  rw [hport, hjob, hlist, counted_modPort hup]
  dsimp only
  rw [rewindJob_eq, hg.account, hg.num, release_counted, rewound_modJob hg.num,
    starvedTest_rewound (hself) rfl (by rw [hst, hst']; exact hats), hst, hst']
  dsimp only
  rw [rewound_modPort, rewound_modJob (by intro k; exact hg.num k)]
  rfl

end Sys2Proof.Machine
end

section
/-! PROOF. What follows from a rewind: the end of a drain or a cancel, and who takes the run slot (R47, R49, R72, R83). -/

namespace Sys2Proof.Machine

variable {s w v : State} {p q : PortNo} {n m : Nat} {j k : Job} {ts : List Task}

/-! ### The state after a rewind -/

/-- `w` is what a rewind of port `p`, whose run job in `s` is `j`, has left, and the port is not usable (R109). -/
structure State.Rewound (w s : State) (p : PortNo) (j : Job) : Prop where
  job : ∃ k, w.job? j.num = some k ∧ k.inFlight = 0 ∧ k.state = j.rewoundState ∧ k.dataClosed = j.dataClosed
    ∧ k.total = j.total ∧ k.delivered = j.delivered ∧ k.holds = j.holds ∧ k.purpose = j.purpose
  run : (w.port p).run = some j.num
  runs : s.runsAt p j.num → w.runsAt p j.num
  inc : (w.port p).inc = (s.port p).inc
  susp : (w.port p).susp = (s.port p).susp
  idle : (w.port p).usable = false

/-- The end of a run that leaves the slot to nobody. -/
theorem cascade_runEnd_nobody (h : runEnd p .rewind w = (v, [.pull p])) (hv : v.nobodyWaits p) :
    cascade (.runEnd p .rewind :: ts) w = cascade ts v := by
  have hpull : runTask (.pull p) v = (v, []) := pull_nothing (.inr hv)
  rw [cascade_step (k := .runEnd p .rewind) h, List.singleton_append, cascade_step hpull, List.nil_append]

/-- A job number of which there is no record. -/
theorem enterRun_absent (hj : s.job? n = none) : enterRun p n s = evalMedia p (s.entered p n) := by
  have hjob : (s.entered p n).job? n = none := by
    rw [State.entered, job?_modJob (by intro; rfl), if_pos rfl, job?_modPort, hj]
    rfl
  unfold State.entered at hjob
  unfold enterRun
  dsimp only
  rw [show (fun j : Job => { j with bound := some p, queueEntry := none, firstDispatch := some (j.firstDispatch.getD
    (s.modPort p fun x => { x with run := some n, idleTimer := none }).clock) }) = Job.boundTo p s.mlc.clock from rfl, hjob]
  rfl

theorem port_enterRun : ∃ b l c, (enterRun p n s).port p
    = { s.port p with run := some n, idleTimer := none, busy := b, lamps := l, conds := c } := by
  have hentered : (s.entered p n).port p = { s.port p with run := some n, idleTimer := none } := by
    rw [State.entered, port_modJob, port_modPort, if_pos rfl]
  have hwhole {u : State} (h : enterRun p n s = evalMedia p u) (hu : ∃ b, u.port p
      = { s.port p with run := some n, idleTimer := none, busy := b }) : ∃ b l c, (enterRun p n s).port p
      = { s.port p with run := some n, idleTimer := none, busy := b, lamps := l, conds := c } := by
    obtain ⟨b, hb⟩ := hu
    obtain ⟨l, hl⟩ := port_evalMedia_both (s := u) (p := p)
    exact ⟨b, l, _, by rw [h, hl, hb]⟩
  cases hj : s.job? n with
  | none => exact hwhole (enterRun_absent hj) ⟨_, hentered⟩
  | some k =>
    obtain ⟨b, hb⟩ := port_setJobState (s := s.entered p n) (n := n) (st := k.runState) (r := .port) (q := p)
    exact hwhole (enterRun_eq hj) ⟨b, by rw [hb, hentered]⟩

/-- The end of a run whose slot the incoming job takes, at a port that is not usable (R76). -/
theorem cascade_runEnd_incoming (h : runEnd p .rewind w = (v, [.pull p])) (hrun : (v.port p).run = none)
    (hinc : (v.port p).inc = some m) (hu : (v.port p).usable = false) :
    cascade (.runEnd p .rewind :: ts) w = cascade ts (enterRun p m (v.modPort p (fun x => { x with inc := none }))) := by
  have hpull : runTask (.pull p) v = (enterRun p m (v.modPort p (fun x => { x with inc := none })), [.dispatch p]) := by
    show pull p v = _
    rw [pull, hrun, hinc]
    rfl
  have hdispatch : runTask (.dispatch p) (enterRun p m (v.modPort p (fun x => { x with inc := none })))
      = (enterRun p m (v.modPort p (fun x => { x with inc := none })), []) := by
    obtain ⟨b, l, c, hport⟩ := port_enterRun (s := v.modPort p (fun x => { x with inc := none })) (p := p) (n := m)
    refine dispatch_nothing ?_
    rw [hport, port_modPort, if_pos rfl]
    exact hu
  rw [cascade_step (k := .runEnd p .rewind) h, List.singleton_append, cascade_step hpull, List.singleton_append,
    cascade_step hdispatch, List.nil_append]

/-! ### The end of a drain or a cancel -/

section Ends

variable (hw : w.Rewound s p j)

include hw

/-- A job that goes on. -/
theorem cascade_live (hst : j.state = .running ∨ j.state = .starved) : cascade (.runEnd p .rewind :: ts) w = cascade ts w := by
  obtain ⟨k, hk, hf, hstate, -⟩ := hw.job
  have hlive : k.state ∉ [JobState.cancelling, .draining] := by
    rw [hstate, Job.rewoundState, if_pos hst]
    split <;> decide
  have hrun : w.runJob p = some k := by rw [State.runJob, hw.run]; exact hk
  rw [cascade_step (k := .runEnd p .rewind) (runEnd_nothing hrun nofun (.inr hlive)), List.nil_append]

variable (hrun : s.runsAt p j.num)

section Leaves

variable (hinc : (s.port p).inc = none) (hsusp : ∀ u ∈ (s.port p).susp, u.reason = .host)

include hinc hsusp

theorem nobodyWaits_rewound : w.nobodyWaits p :=
  ⟨hw.inc.trans hinc, by rw [hw.susp]; exact hsusp, hw.idle⟩

include hrun

theorem cascade_cancelled (hst : j.state = .cancelling) : cascade (.runEnd p .rewind :: ts) w
    = cascade ts ((leaveRun p w).finishes j.num .cancelled .fault) := by
  obtain ⟨k, hk, hf, hstate, -⟩ := hw.job
  exact cascade_runEnd_nobody (runEnd_cancels hk (hw.runs hrun) hf (by rw [hstate, Job.rewoundState, hst]; rfl))
    (nobodyWaits_finishes (nobodyWaits_leaveRun (nobodyWaits_rewound hw hinc hsusp)))

theorem cascade_done (hst : j.state = .draining) (hd : j.dataClosed = true ∧ j.total = some j.delivered) :
    cascade (.runEnd p .rewind :: ts) w = cascade ts ((leaveRun p w).finishes j.num .done .fault) := by
  obtain ⟨k, hk, hf, hstate, hclosed, htotal, hdel, -⟩ := hw.job
  exact cascade_runEnd_nobody (runEnd_done hk (hw.runs hrun) hf (by rw [hstate, Job.rewoundState, hst]; rfl)
    (by rw [hclosed, htotal, hdel]; exact hd))
    (nobodyWaits_finishes (nobodyWaits_leaveRun (nobodyWaits_rewound hw hinc hsusp)))

end Leaves

/-- Job `n` changes to this state as its drain ends. -/
def State.drained (s : State) (n : Nat) (st : JobState) : State :=
  (s.modJob n (fun j => { j with purpose := none, state := st })).noteJob n .fault

omit hw in
theorem port_drained {st : JobState} : (w.drained n st).port q = w.port q := by
  simp [State.drained, State.port]

include hrun

theorem cascade_held (hinc : (s.port p).inc = none) (hsusp : ∀ u ∈ (s.port p).susp, u.reason = .host)
    (hst : j.state = .draining) (hd : ¬ (j.dataClosed = true ∧ j.total = some j.delivered)) (hh : j.holds.isEmpty = false) :
    cascade (.runEnd p .rewind :: ts) w = cascade ts ((leaveRun p w).drained j.num .held) := by
  obtain ⟨k, hk, hf, hstate, hclosed, htotal, hdel, hholds, -⟩ := hw.job
  have hst' : k.state = .draining := by rw [hstate, Job.rewoundState, hst]; rfl
  have hd' : ¬ (k.dataClosed = true ∧ k.total = some k.delivered) := by rwa [hclosed, htotal, hdel]
  have hwaits := nobodyWaits_leaveRun (nobodyWaits_rewound hw hinc hsusp)
  exact cascade_runEnd_nobody ((runEnd_drained hk (hw.runs hrun) hf hst' hd').trans
    (endDrain_held hk (hw.runs hrun) hst' hd' (by rwa [hholds]))) (nobodyWaits_of port_drained hwaits.1 hwaits.2.1 hwaits.2.2)

variable (hst : j.state = .draining) (hd : ¬ (j.dataClosed = true ∧ j.total = some j.delivered)) (hh : j.holds.isEmpty = true)

include hst hd hh

theorem runEnd_suspends (hp : j.purpose = some .suspendInsert ∨ j.purpose = some .suspendHost) : runEnd p .rewind w
    = (((leaveRun p w).modPort p (fun x => { x with
        susp := some { job := j.num, reason := if j.purpose = some .suspendInsert then .insert else .host } })).drained j.num
          .suspended, [.pull p]) := by
  obtain ⟨k, hk, hf, hstate, hclosed, htotal, hdel, hholds, hpurpose⟩ := hw.job
  have hst' : k.state = .draining := by rw [hstate, Job.rewoundState, hst]; rfl
  have hd' : ¬ (k.dataClosed = true ∧ k.total = some k.delivered) := by rwa [hclosed, htotal, hdel]
  rw [← hpurpose]
  exact (runEnd_drained hk (hw.runs hrun) hf hst' hd').trans
    (endDrain_suspended hk (hw.runs hrun) hst' hd' (by rwa [hholds]) (by rwa [hpurpose]))

theorem cascade_suspended (hinc : (s.port p).inc = none) (hp : j.purpose = some .suspendHost) :
    cascade (.runEnd p .rewind :: ts) w = cascade ts (((leaveRun p w).modPort p (fun x => { x with
      susp := some { job := j.num, reason := .host } })).drained j.num .suspended) := by
  obtain ⟨l, c, hport⟩ := port_leaveRun (s := w) (p := p)
  have hend := runEnd_suspends hw hrun hst hd hh (.inr hp)
  rw [hp, if_neg (by decide)] at hend
  refine cascade_runEnd_nobody hend (nobodyWaits_of (port_drained.trans ((port_modPort ..).trans (if_pos rfl))) ?_ ?_ ?_)
  · rw [hport]
    exact hw.inc.trans hinc
  · exact fun u hu => by rw [← Option.some.inj hu]
  · rw [hport]
    exact hw.idle

theorem cascade_inserted (hinc : (s.port p).inc = some m) (hp : j.purpose = some .suspendInsert) :
    cascade (.runEnd p .rewind :: ts) w = cascade ts (enterRun p m ((((leaveRun p w).modPort p (fun x => { x with
      susp := some { job := j.num, reason := .insert } })).drained j.num .suspended).modPort p
        (fun x => { x with inc := none }))) := by
  obtain ⟨l, c, hport⟩ := port_leaveRun (s := w) (p := p)
  have hend := runEnd_suspends hw hrun hst hd hh (.inl hp)
  rw [if_pos hp] at hend
  refine cascade_runEnd_incoming hend ?_ ?_ ?_
  · rw [port_drained, port_modPort, if_pos rfl, hport]
  · rw [port_drained, port_modPort, if_pos rfl, hport]
    exact hw.inc.trans hinc
  · rw [port_drained, port_modPort, if_pos rfl, hport]
    exact hw.idle

end Ends

end Sys2Proof.Machine
end

section
/-! PROOF. JAM, the progress watchdog and the stall (R112, R113, R115, R117). -/

namespace Sys2Proof.Machine

variable {s w : State} {p q : PortNo} {j : Job} {y : Port} {g : Job → Job} {b : Account}

/-! ### The state before what follows -/

/-- What a rewind and the PORT_EVENT of the same act leave. -/
def State.lost (s : State) (p : PortNo) (j : Job) (y : Port) (g : Job → Job) (b : Account) : State :=
  (s.rewinds p j y g b).notePort p

/-- A rewound port whose condition or link changes. -/
theorem rewinds_becomes {f : Port → Port}
    (hf : ∀ x c, f { x with busy := x.busy && c } = { f x with busy := (f x).busy && c }) :
    (s.rewinds p j y g b).portBecomes p (f ((s.rewinds p j y g b).port p)) = s.lost p j (f y) g b := by
  refine congrArg (fun v : State => v.notePort p) ?_
  show (s.rewinds p j y g b).modPort p f = _
  unfold State.rewinds
  dsimp only
  split
  · rw [rewound_modPort, hf]
  · rw [modPort_noteJob, rewound_modPort, hf]

/-- `State.lost` field by field. -/
theorem lost_eq (hj : s.job? j.num = some j) : s.lost p j y g b
    = (let st := j.rewoundState
      let v := (((s.setPort p { y with busy := y.busy && (decide (st ≠ .starved) || decide (st = j.state)) }).modJob j.num
        (fun _ => { (g j).rewinds with state := st })).setAccount j.account b).setReservation j.account
          ((s.reservation j.account).less (s.port p).inFlight)
      (if st = j.state then v else v.noteJob j.num .fault).notePort p) := by
  have hconst (z : Port) : (s.setPort p z).modJob j.num (fun k => { (g k).rewinds with state := j.rewoundState })
      = (s.setPort p z).modJob j.num (fun _ => { (g j).rewinds with state := j.rewoundState }) :=
    modJob_congr (s := s.setPort p z) (j := j) (job?_ne_zero hj) hj rfl
  unfold State.lost State.rewinds State.rewound State.counted
  dsimp only
  rw [hconst]

theorem port_rewinds : (s.rewinds p j y g b).port q = if q = p then { y with
    busy := y.busy && (decide (j.rewoundState ≠ .starved) || decide (j.rewoundState = j.state)) } else s.port q := by
  unfold State.rewinds
  dsimp only
  split
  · exact port_rewound
  · rw [State.port, (noteJob_frame _ _).2.2.2.2.1]
    exact port_rewound

theorem port_lost : (s.lost p j y g b).port q = if q = p then { y with
    busy := y.busy && (decide (j.rewoundState ≠ .starved) || decide (j.rewoundState = j.state)) } else s.port q := by
  rw [← port_rewinds (g := g) (b := b)]
  simp [State.lost, State.port]

theorem job?_lost (hg : Counts g) (hj : s.job? j.num = some j) :
    (s.lost p j y g b).job? j.num = some { (g j).rewinds with state := j.rewoundState } := by
  have hself {z : Port} {r : Reserved} : (s.rewound p j.num j.account z
      (fun k => { (g k).rewinds with state := j.rewoundState }) b r).job? j.num = some { (g j).rewinds with state := j.rewoundState } :=
    job?_counted (a := j.account) (b := b) (g := fun k => { (g k).rewinds with state := j.rewoundState }) hg.num hj
  rw [State.lost, job?_notePort]
  unfold State.rewinds
  dsimp only
  split
  · exact hself
  · rw [job?_noteJob]
    exact hself

theorem rewound_lost (hg : Counts g) (hj : s.job? j.num = some j) (hx : (s.port p).run = some j.num)
    (hrun : y.run = (s.port p).run) (hinc : y.inc = (s.port p).inc) (hsusp : y.susp = (s.port p).susp) (hu : y.usable = false) :
    (s.lost p j y g b).Rewound s p j where
  job := by
    refine ⟨_, job?_lost hg hj, rfl, rfl, ?_⟩
    obtain ⟨c, d, h⟩ := hg j
    rw [h]
    exact ⟨rfl, rfl, rfl, rfl, rfl⟩
  run := by rw [port_lost, if_pos rfl]; exact hrun.trans hx
  runs := fun h q => by
    rw [← h q, port_lost]
    split
    · next hq => rw [hq]; exact iff_of_eq (congrArg (· = _) hrun)
    · rfl
  inc := by rw [port_lost, if_pos rfl]; exact hinc
  susp := by rw [port_lost, if_pos rfl]; exact hsusp
  idle := by rw [port_lost, if_pos rfl]; exact hu

/-! ### A JAM and a stall -/

theorem setCondition_jams (h : (w.port p).jammed = false) :
    setCondition p (w.port p).ready true (w.port p).doorOpen (w.port p).mediaEmpty w
      = w.portBecomes p { w.port p with jammed := true } :=
  setCondition_eq.trans (if_neg fun h' => by simpa [h] using congrArg Port.jammed h')

/-- A rewind of a port with no run job (R109). -/
theorem rewind_none (hup : y.link = .up) (hy : y.run = (s.port p).run) (hrun : s.runJob p = none) :
    rewind p (s.setPort p y) = s.setPort p (y.rewound (s.portCfg p).window) := by
  have hport : (s.setPort p y).port p = y := (port_setPort ..).trans (if_pos rfl)
  have hnone : (s.setPort p y).runJob p = none := (runJob_congr (s := s) (t := s.setPort p y) rfl (by rw [hport, hy])).trans hrun
  unfold rewind
  dsimp only
  rw [hnone, emptyList_eq hup]

theorem portBecomes_setPort {z : Port} : (s.setPort p y).portBecomes p z = s.portBecomes p z := by
  rw [State.portBecomes, setPort_setPort]
  rfl

section Rewinds

variable (hup : (s.port p).link = .up)

include hup

/-- The port record after a JAM (R112). -/
def Port.jams (x : Port) (d configured : Nat) : Port := { (x.spoils d).rewound configured with jammed := true }

/-- The port record after a stall (R117). -/
def Port.stalls (x : Port) (d configured : Nat) : Port :=
  { (x.doubts d).rewound configured with link := .recovering, effWindow := 0 }

section Job

variable (hx : (s.port p).run = some j.num) (hj : s.job? j.num = some j)
  (hat : j.state = .running → j.rewoundState = .starved → s.runsAt p j.num)

include hx hj hat

theorem jamFirst_eq {location spoiled : Nat} (hjam : (s.port p).jammed = false) : jamFirst p location spoiled s
    = (let d := min ((s.port p).inFlight.countP (fun f => f.stage == .taken)) spoiled
      s.lost p j ((s.port p).jams d (s.portCfg p).window) (Job.spoils d) ((s.account j.account).spoils d),
      [.runEnd p .rewind, .jamOn p location, .settle]) := by
  have hrun : s.runJob p = some j := by rw [State.runJob, hx]; exact hj
  have hrewind (d : Nat) : rewind p (s.counted p j.num j.account ((s.port p).spoils d) (Job.spoils d)
      ((s.account j.account).spoils d)) = s.rewinds p j (((s.port p).spoils d).rewound (s.portCfg p).window) (Job.spoils d)
        ((s.account j.account).spoils d) := rewind_counted (y := (s.port p).spoils d) hup hx rfl hx hj (counts_spoils d) hat
  unfold jamFirst
  dsimp only
  rw [takenCount_eq, countSpoiled_eq hrun, hrewind, setCondition_jams (by rw [port_rewinds, if_pos rfl]; exact hjam),
    rewinds_becomes (f := fun x => { x with jammed := true }) (fun _ _ => rfl)]
  rfl

theorem stall_eq {detail : Nat} : stall p detail s
    = (let d := (s.port p).inFlight.countP (fun f => f.stage == .taken)
      s.lost p j ((s.port p).stalls d (s.portCfg p).window) (Job.doubts d) ((s.account j.account).doubts d),
      [.runEnd p .rewind, .stallTail p detail, .settle]) := by
  have hrun : s.runJob p = some j := by rw [State.runJob, hx]; exact hj
  have hrewind (d : Nat) : rewind p (s.counted p j.num j.account ((s.port p).doubts d) (Job.doubts d)
      ((s.account j.account).doubts d)) = s.rewinds p j (((s.port p).doubts d).rewound (s.portCfg p).window) (Job.doubts d)
        ((s.account j.account).doubts d) := rewind_counted (y := (s.port p).doubts d) hup hx rfl hx hj (counts_doubts d) hat
  have hlink (d : Nat) : ((s.rewinds p j (((s.port p).doubts d).rewound (s.portCfg p).window) (Job.doubts d)
      ((s.account j.account).doubts d)).port p).link ≠ .recovering := by
    rw [port_rewinds, if_pos rfl]
    exact fun h => nomatch hup.symm.trans h
  unfold stall
  dsimp only
  rw [takenCount_eq, countDoubtful_eq hrun, hrewind, setLink_notUp (hlink _) (by decide),
    rewinds_becomes (f := fun x => { x with link := .recovering, effWindow := 0 }) (fun _ _ => rfl)]
  rfl

end Job

/-! ### With no run job -/

theorem jamFirst_none {location spoiled : Nat} (hrun : s.runJob p = none) (hjam : (s.port p).jammed = false) :
    jamFirst p location spoiled s = (s.portBecomes p ((s.port p).jams
      (min ((s.port p).inFlight.countP (fun f => f.stage == .taken)) spoiled) (s.portCfg p).window),
      [.runEnd p .rewind, .jamOn p location, .settle]) := by
  have hrewind (d : Nat) : rewind p (s.setPort p ((s.port p).spoils d))
      = s.setPort p (((s.port p).spoils d).rewound (s.portCfg p).window) := rewind_none hup rfl hrun
  unfold jamFirst
  dsimp only
  rw [takenCount_eq, countSpoiled_none hrun, hrewind, setCondition_jams (by rw [port_setPort, if_pos rfl]; exact hjam),
    portBecomes_setPort, port_setPort, if_pos rfl]
  rfl

theorem stall_none {detail : Nat} (hrun : s.runJob p = none) : stall p detail s = (s.portBecomes p ((s.port p).stalls
      ((s.port p).inFlight.countP (fun f => f.stage == .taken)) (s.portCfg p).window),
      [.runEnd p .rewind, .stallTail p detail, .settle]) := by
  have hrewind (d : Nat) : rewind p (s.setPort p ((s.port p).doubts d))
      = s.setPort p (((s.port p).doubts d).rewound (s.portCfg p).window) := rewind_none hup rfl hrun
  have hlink (d : Nat) : ((s.setPort p (((s.port p).doubts d).rewound (s.portCfg p).window)).port p).link ≠ .recovering := by
    rw [port_setPort, if_pos rfl]
    exact fun h => nomatch hup.symm.trans h
  unfold stall
  dsimp only
  rw [takenCount_eq, countDoubtful_none hrun, hrewind, setLink_notUp (hlink _) (by decide), portBecomes_setPort,
    port_setPort, if_pos rfl]
  rfl

end Rewinds

/-! ### The tail of a stall -/

/-- The port as STALL is on and its link has left UP (R90, R117). -/
theorem port_stalled (detail : Nat) : ∃ l, (clearUp p (condOn p .stall (some detail) w)).port p = { w.port p with
    ready := false, doorOpen := false, mediaEmpty := 0, rateCount := 0, busy := false, idleTimer := none, watchdog := none
    transfer := [], lamps := l
    conds := { (w.port p).conds with stall := true, door := false, mediaOut := false, slow := false } } := by
  obtain ⟨l1, h1⟩ := port_condOn_self (s := w) (p := p) .stall (some detail)
  obtain ⟨l2, h2⟩ := port_clearUp (s := condOn p .stall (some detail) w) (p := p)
  exact ⟨l2, by rw [h2, h1]; rfl⟩

theorem stallTail_forceOff {detail : Nat} (hm : (w.port p).wakeMode = .forceOff) :
    stallTail p detail w = goDown p (clearUp p (condOn p .stall (some detail) w)) := by
  obtain ⟨l, h⟩ := port_stalled (w := w) (p := p) detail
  rw [stallTail]
  exact if_pos (by rw [h]; exact hm)

theorem stallTail_attempts {detail : Nat} (hm : (w.port p).wakeMode ≠ .forceOff) :
    stallTail p detail w = beginAttempt p 1 (clearUp p (condOn p .stall (some detail) w)) := by
  obtain ⟨l, h⟩ := port_stalled (w := w) (p := p) detail
  rw [stallTail]
  exact if_neg (by rw [h]; exact hm)

/-- The port after the tail of a stall (R117). -/
theorem port_stallTail {detail : Nat} (hl : (w.port p).link = .recovering) : ∃ x : Port, (stallTail p detail w).port p = { x with
      ready := false, doorOpen := false, mediaEmpty := 0, rateCount := 0, busy := false
      conds := { (w.port p).conds with stall := true, door := false, mediaOut := false, slow := false } }
    ∧ ((w.port p).wakeMode = .forceOff → x.link = .down)
    ∧ ((w.port p).wakeMode ≠ .forceOff → x.link = .recovering ∧ x.attempt = some 1) := by
  obtain ⟨l, h⟩ := port_stalled (w := w) (p := p) detail
  by_cases hm : (w.port p).wakeMode = .forceOff
  · refine ⟨{ (clearUp p (condOn p .stall (some detail) w)).port p with
      link := .down, effWindow := 0, forceOff := false, wakeTimer := none, hailTimer := false, attempt := none
      idleTimer := none }, ?_, fun _ => rfl, fun hn => absurd hm hn⟩
    rw [stallTail_forceOff hm, port_goDown (by rw [h]; exact fun hd => nomatch hl.symm.trans hd), if_pos rfl, h]
  · refine ⟨{ (clearUp p (condOn p .stall (some detail) w)).port p with attempt := some 1 }, ?_, fun ho => absurd ho hm,
      fun _ => ⟨by rw [h]; exact hl, rfl⟩⟩
    have hport (v : State) (a b : Frame) : ((v.send p a).send p b).port p = v.port p := rfl
    rw [stallTail_attempts hm, beginAttempt_eq, hport, port_setPort, if_pos rfl, h]

theorem pressOut_stallTail_off {detail : Nat} (hm : (w.port p).wakeMode = .forceOff) :
    (stallTail p detail w).pressOut = w.pressOut := by
  rw [stallTail_forceOff hm]
  simp only [goDown_frame, clearUp_frame, condOn_frame]

theorem pressOut_stallTail_attempts {detail : Nat} (hm : (w.port p).wakeMode ≠ .forceOff) : (stallTail p detail w).pressOut
    = w.pressOut ++ [(p, { kind := 0x05, tag := 0, payload := [] }), (p, { kind := 0x01, tag := 0, payload := [] })] := by
  have hsame : (clearUp p (condOn p .stall (some detail) w)).pressOut = w.pressOut := by
    simp only [clearUp_frame, condOn_frame]
  have hsends (v : State) (a b : Frame) : ((v.send p a).send p b).pressOut = v.pressOut ++ [(p, a), (p, b)] := by
    simp [State.send]
  rw [stallTail_attempts hm, beginAttempt_eq, hsends, ← hsame]
  rfl

/-! ### Frames and timers with no effect -/

theorem jamFrame_nothing {location spoiled : Nat} (h : 15 < location ∨ (s.port p).link ≠ .up) :
    jamFrame p location spoiled s = (s, []) := by
  unfold jamFrame
  split
  · rfl
  · next hloc => exact if_pos (h.resolve_left hloc)

theorem jamFrame_again {location spoiled : Nat} (hl : location ≤ 15) (hup : (s.port p).link = .up)
    (hjam : (s.port p).jammed = true) : jamFrame p location spoiled s = (alertRepeat (entryNo p .jam) location s, []) := by
  rw [jamFrame, if_neg (by omega), onJam, if_neg (not_not.mpr hup), if_pos hjam]

theorem jamFrame_first {location spoiled : Nat} (hl : location ≤ 15) (hup : (s.port p).link = .up)
    (hjam : (s.port p).jammed = false) : jamFrame p location spoiled s = jamFirst p location spoiled s := by
  rw [jamFrame, if_neg (by omega), onJam, if_neg (not_not.mpr hup), if_neg (by simp [hjam])]

theorem watchdogExpires_nothing (h : (s.port p).link ≠ .up ∨ (s.port p).watchdog = none) : watchdogExpires p s = (s, []) := by
  refine if_neg ?_
  rintro ⟨hl, hd⟩
  rcases h with h | h
  · exact h hl
  · simp [h] at hd

theorem watchdogExpires_stalls (hl : (s.port p).link = .up) (hd : (s.port p).watchdog ≠ none) :
    watchdogExpires p s = stall p 0 s := if_pos ⟨hl, Option.isSome_iff_ne_none.mpr hd⟩

theorem cascade_jamOn {location : Nat} : cascade [.jamOn p location, .settle] w = settle (condOn p .jam (some location) w) := by
  have hon : runTask (.jamOn p location) w = (condOn p .jam (some location) w, []) := rfl
  rw [cascade_step hon, List.nil_append, cascade_settle]

theorem cascade_stallTail {detail : Nat} : cascade [.stallTail p detail, .settle] w = settle (stallTail p detail w) := by
  have htail : runTask (.stallTail p detail) w = (stallTail p detail w, []) := rfl
  rw [cascade_step htail, List.nil_append, cascade_settle]

/-- The end of a run at a port with no run job. -/
theorem cascade_runEnd_none {ts : List Task} (h : w.runJob p = none) :
    cascade (.runEnd p .rewind :: ts) w = cascade ts w := by
  have hend : runTask (.runEnd p .rewind) w = (w, []) := by
    show runEnd p .rewind w = _
    rw [runEnd, h]
  rw [cascade_step hend, List.nil_append]

theorem runJob_portBecomes {z : Port} (hz : z.run = (s.port p).run) : (s.portBecomes p z).runJob p = s.runJob p :=
  runJob_congr (by simp only [State.portBecomes, notePort_frame, setPort_frame]) (by rw [port_portBecomes, if_pos rfl, hz])

section NoJob

variable (hup : (s.port p).link = .up) (hrun : s.runJob p = none)

include hup hrun

theorem cascade_jamFirst_none {location spoiled : Nat} (hjam : (s.port p).jammed = false) :
    cascade (jamFirst p location spoiled s).2 (jamFirst p location spoiled s).1 = settle (condOn p .jam (some location)
      (s.portBecomes p ((s.port p).jams (min ((s.port p).inFlight.countP (fun f => f.stage == .taken)) spoiled)
        (s.portCfg p).window))) := by
  rw [jamFirst_none hup hrun hjam]
  exact (cascade_runEnd_none ((runJob_portBecomes (by rfl)).trans hrun)).trans cascade_jamOn

theorem cascade_stall_none {detail : Nat} : cascade (stall p detail s).2 (stall p detail s).1 = settle (stallTail p detail
    (s.portBecomes p ((s.port p).stalls ((s.port p).inFlight.countP (fun f => f.stage == .taken)) (s.portCfg p).window))) := by
  rw [stall_none hup hrun]
  exact (cascade_runEnd_none ((runJob_portBecomes (by rfl)).trans hrun)).trans cascade_stallTail

end NoJob

theorem usable_jams {x : Port} {d c : Nat} : (x.jams d c).usable = false := by simp [Port.usable, Port.jams]

theorem usable_stalls {x : Port} {d c : Nat} : (x.stalls d c).usable = false := by simp [Port.usable, Port.stalls]

section Job

variable {d c : Nat} (hj : s.job? j.num = some j) (hx : (s.port p).run = some j.num)

include hj hx

theorem rewound_jams : (s.lost p j ((s.port p).jams d c) (Job.spoils d) b).Rewound s p j :=
  rewound_lost (counts_spoils d) hj hx (by rfl) (by rfl) (by rfl) usable_jams

theorem rewound_stalls : (s.lost p j ((s.port p).stalls d c) (Job.doubts d) b).Rewound s p j :=
  rewound_lost (counts_doubts d) hj hx (by rfl) (by rfl) (by rfl) usable_stalls

end Job

/-- Settles O46: both rewinds leave a `State.lost`, whose run ends by the state of its job (`State.Rewound`). -/
theorem jamAndStall : Obligations.JamAndStall := by
  unfold Obligations.JamAndStall
  intro s p location spoiled x u
  have hexec : exec (.jam p location spoiled) s = .next (act (jamFrame p location.toNat spoiled.toNat) s) := rfl
  refine ⟨fun h => ends_nothing hexec (jamFrame_nothing (s := u) h),
    fun h => ends_nothing (i := .progressWatchdogExpiry p) (g := watchdogExpires p) rfl (watchdogExpires_nothing (s := u) h),
    fun hl hd => ends_then (i := .progressWatchdogExpiry p) (g := watchdogExpires p) rfl (watchdogExpires_stalls (s := u) hl hd),
    fun hl hjam hloc => ?again, ?tail, ?main⟩
  case again =>
    have hend := ends_then hexec (jamFrame_again (s := u) hloc hl hjam)
    rwa [cascade_nil] at hend
  case tail =>
    intro w detail z t hl
    obtain ⟨y, hy, hoff, hon⟩ := port_stallTail (w := w) (p := p) (detail := detail) hl
    have ht : t.port p = _ := hy
    rw [ht]
    exact ⟨rfl, rfl, rfl, rfl, rfl, rfl, rfl, rfl, rfl, fun hm => ⟨hoff hm, pressOut_stallTail_off hm⟩,
      fun hm => ⟨(hon hm).1, (hon hm).2, pressOut_stallTail_attempts hm⟩⟩
  case main =>
    intro hup taken d y jammed stalled jams jamEnds stallEnds
    refine ⟨fun hnone => ?none, fun n j hx hj => ?job⟩
    case none =>
      have hrun : u.runJob p = none := by
        cases hx : x.run with
        | none => exact congrArg (Option.bind · u.job?) hx
        | some n => exact (congrArg (Option.bind · u.job?) hx).trans (hnone n hx)
      refine ⟨fun hjam hloc => ?_, fun detail => cascade_stall_none (s := u) hup hrun⟩
      have hend : Ends (.jam p location spoiled) s (cascade (jamFirst p location.toNat spoiled.toNat u).2
          (jamFirst p location.toNat spoiled.toNat u).1) := ends_then hexec (jamFrame_first (s := u) hloc hup hjam)
      rw [cascade_jamFirst_none (s := u) hup hrun hjam] at hend
      exact hend
    case job =>
      intro live st a r lost jam down hat
      have hnum := job?_num hj
      subst hnum
      have hjam : u.lost p j (x.jams d (s.portCfg p).window) (Job.spoils d) (a.spoils d) = jam := lost_eq (s := u) hj
      have hdown : u.lost p j (x.stalls taken (s.portCfg p).window) (Job.doubts taken) (a.doubts taken) = down :=
        lost_eq (s := u) hj
      have hjamR : jam.Rewound u p j := hjam ▸ rewound_jams (s := u) hj hx
      have hdownR : down.Rewound u p j := hdown ▸ rewound_stalls (s := u) hj hx
      have hjams : jams [.runEnd p .rewind] jam := fun hj' hloc => by
        have hend := ends_then hexec ((jamFrame_first (s := u) hloc hup hj').trans
          ((jamFirst_eq (s := u) hup hx hj hat hj').trans (congrArg (·, _) hjam)))
        exact hend
      have hstall (detail : Nat) : stall p detail u = (down, [.runEnd p .rewind, .stallTail p detail, .settle]) :=
        (stall_eq (s := u) hup hx hj hat).trans (congrArg (·, _) hdown)
      clear_value jam down
      refine ⟨hjams, hstall, ?_⟩
      intro ends left becomes whole staying
      have hends (fin : State → State) (hfin : ∀ w ts, w.Rewound u p j → cascade (.runEnd p .rewind :: ts) w = cascade ts (fin w)) :
          ends fin := by
        refine ⟨fun hj' hloc => ?_, fun detail => ?_⟩
        · have hcascade : cascade ([.runEnd p .rewind] ++ [.jamOn p location.toNat, .settle]) jam
              = settle (condOn p .jam (some location.toNat) (fin jam)) := (hfin jam _ hjamR).trans cascade_jamOn
          exact hcascade ▸ hjams hj' hloc
        · rw [hstall]
          exact (hfin down _ hdownR).trans cascade_stallTail
      clear_value ends
      refine ⟨fun hst => hends id fun w ts hw => cascade_live hw hst,
        fun hst hrun hstay => hends _ fun w ts hw => cascade_cancelled hw hrun hstay.1 hstay.2 hst,
        fun hst hd hrun hstay => hends _ fun w ts hw => cascade_done hw hrun hstay.1 hstay.2 hst hd,
        fun hst hd hh hrun hstay => hends _ fun w ts hw => cascade_held hw hrun hstay.1 hstay.2 hst hd hh,
        fun hst hd hh hp hrun hinc => hends _ fun w ts hw => cascade_suspended hw hrun hst hd hh hinc hp,
        fun m hst hd hh hp hrun hinc => hends _ fun w ts hw => cascade_inserted hw hrun hst hd hh hinc hp⟩

end Sys2Proof.Machine
end
